-- ==== Sys2Proof/Word.lean ====
section
/-!
DEFINITION. The words of the Fervato 3208 model: bytes, payloads, the time base, the numbers that name
tools, stations, positions, pools and links (00_scope.md, "Numbering and addressing"), and the data an
unfinished or failed store write may leave behind (R189, R190, R192).
-/

namespace Sys2Proof

/-- One byte of a link. -/
abbrev Byte := BitVec 8

/-- A frame's payload: its bytes in the order sent; byte 0 is the message kind (R166). -/
abbrev Payload := List Byte

/-- A value of the 48-bit millisecond time base (R191). -/
abbrev Time := BitVec 48

/-- Tools 1 to 64; the number on the wire is the value plus one (R1). -/
abbrev ToolId := Fin 64

/-- Stations 1 to 8; the number on the wire is the value plus one. -/
abbrev StationId := Fin 8

/-- Pools 1 to 8; the number on the wire is the value plus one. -/
abbrev PoolId := Fin 8

/-- Positions 0 to 4 of a station: 0 is the dressing position, 1 to 4 the wheel spindles. -/
abbrev Pos := Fin 5

/-- Links 0 to 8: link 0 is the cell link, link n the station link of station n. -/
abbrev LinkId := Fin 9

/-- A role, written station.position in the manual (R103). -/
structure RoleId where
  station : StationId
  pos : Pos
  deriving DecidableEq, Repr

/-- The kind of a tool (R2): it decides the life group the record carries and the positions it may fill. -/
inductive Kind where
  | wheel
  | dresser
  deriving DecidableEq, Repr

/-- The ten tool flags (R15 to R18), in the order of the value code table. -/
structure Flags where
  pinned : Bool
  final : Bool
  dressDue : Bool
  overdue : Bool
  lifeWarn : Bool
  undersize : Bool
  depthClamped : Bool
  breakMark : Bool
  unconfirmed : Bool
  storeFault : Bool
  deriving DecidableEq, Repr

/-- The identity part of a tool record, which carries a check of its own (R186). `kind` and `pool` are
absent in a VACANT record and in one whose identity part failed (R2, R192). -/
structure Identity where
  kind : Option Kind
  pool : Option PoolId
  label : List Byte
  recond : Nat
  deriving DecidableEq, Repr

/-- A trip record as it is read from a stored image that fails its check (R192): numbers of any value. -/
structure RawTrip where
  cause : Nat
  station : Nat
  pos : Nat
  step : Option Nat
  journal : Option Nat
  tag : Option Nat
  peak : Option Nat
  q : Option Nat
  stamp : Nat
  deriving DecidableEq, Repr

/-- The part of a stored tool record outside its identity part, as it is read from an image that fails
its check (R192): any numbers at all. -/
structure RawTool where
  dNew : Nat
  dMin : Nat
  dNow : Nat
  dressStep : Nat
  dressLimit : Nat
  warnDresses : Nat
  lifeBudget : Nat
  warnWu : Nat
  wd : Nat
  wt : Nat
  partsTotal : Nat
  partsSinceDress : Nat
  dressCount : Nat
  avg : Nat
  tripCount : Nat
  flags : Flags
  trip : Option RawTrip
  deriving DecidableEq, Repr

/-- What became of the identity part of a tool record whose write did not complete soundly: sound with
its earlier content, sound with the content the write carried, or failing its own check (R186, R190). -/
inductive TornIdentity where
  | earlier
  | carried
  | failing
  deriving DecidableEq, Repr

/-- A stored image that fails its check: what its identity part became and what the rest reads as. The
rest matters to a tool record alone; every other record that fails its check loads a fixed content (R192). -/
structure TornImage where
  identity : TornIdentity
  raw : RawTool
  deriving DecidableEq, Repr

/-- The verification result of a completed store write (R189). -/
inductive WriteResult where
  | passes
  | fails (image : TornImage)
  deriving DecidableEq, Repr

/-- The three conditions in which a power loss or RESET_N may leave the record being written (R190). -/
inductive Torn where
  | earlier
  | carried
  | broken (image : TornImage)
  deriving DecidableEq, Repr

end Sys2Proof
end

