-- ==== Sys2Proof/Syntax.lean ====
section
/-!
DEFINITION. The commands of the Fervato 3208: one constructor per row of spec/opcode_table.json, in the
table's order. A command is one step of the part, whole and indivisible (95_what_each_step_holds.md):
what the outside world does to it (power, bytes, frames), what its clock or its transmitters bring
about, and what it takes from its own queues (a station record, a cell request).
-/

namespace Sys2Proof

/-- The commands. A station record or a cell request carries no operand beside the station: the record
is the oldest of the station's intake queue (R68), the request the oldest frame of the cell request
intake (R176), so its fields are in the state (DESIGN CHOICE, notes/assumptions/1.md). -/
inductive Instr where
  /-- POWER_UP (R191): power-up or RESET_N. `torn` is the condition in which a write in flight at a
  RESET_N is left (R190); it is not read where no write is in flight. -/
  | powerUp (torn : Torn)
  /-- POWER_LOSS (R190). -/
  | powerLoss (torn : Torn)
  /-- WRITE_HOLD_END (R196). -/
  | writeHoldEnd
  /-- STORE_WRITE_COMPLETE (R189). -/
  | storeWriteComplete (result : WriteResult)
  /-- LINK_BYTE (R168 to R170): byte `b` is received on link `link`. -/
  | linkByte (link : LinkId) (b : Byte)
  /-- GAP (R171). -/
  | gap (link : LinkId)
  /-- STATION_RECORD_ARRIVAL (R66): the last byte of a sound frame with this payload is received on
  the station's link. -/
  | stationRecordArrival (station : StationId) (payload : Payload)
  /-- CELL_FRAME_ARRIVAL (R175): the last byte of a sound frame with this payload is received on the
  cell link. -/
  | cellFrameArrival (payload : Payload)
  /-- ANSWER_BYTE_SEND (R173). -/
  | answerByteSend (link : LinkId)
  /-- DIRECTIVE_SEND (R130, R174). -/
  | directiveSend (station : StationId)
  /-- REPLY_SEND (R180). -/
  | replySend
  /-- NOTICE_SEND (R182). -/
  | noticeSend
  /-- LINK_RATE_CHANGE (R184). -/
  | linkRateChange (link : LinkId)
  /-- PART_START (R71). -/
  | partStart (station : StationId)
  /-- CUT (R75). -/
  | cut (station : StationId)
  /-- DRESS (R77). -/
  | dress (station : StationId)
  /-- PART_END (R78). -/
  | partEnd (station : StationId)
  /-- WINDOW_TIMER_EXPIRY (R147). -/
  | windowTimerExpiry (station : StationId)
  /-- CAP_DEADLINE_EXPIRY (R147). -/
  | capDeadlineExpiry (station : StationId)
  /-- LAPSE (R162). -/
  | lapse (station : StationId)
  /-- TOOL_ENTER (R20). -/
  | toolEnter
  /-- TOOL_RECONDITION (R21). -/
  | toolRecondition
  /-- TOOL_REMOVE (R22). -/
  | toolRemove
  /-- TOOL_ADJUST (R23). -/
  | toolAdjust
  /-- TOOL_PIN (R24). -/
  | toolPin
  /-- TOOL_UNPIN (R24). -/
  | toolUnpin
  /-- TOOL_READ (R25). -/
  | toolRead
  /-- TOOL_TABLE_READ (R26). -/
  | toolTableRead
  /-- TOOL_RELEASE (R97). -/
  | toolRelease
  /-- PLAN_BEGIN (R52). -/
  | planBegin
  /-- PLAN_STEPS (R53). -/
  | planSteps
  /-- PLAN_DROP (R56). -/
  | planDrop
  /-- PLAN_READ (R63). -/
  | planRead
  /-- ROLE_DEFINE (R109). -/
  | roleDefine
  /-- ROLE_CLEAR (R110). -/
  | roleClear
  /-- TOOL_MOUNT (R111). -/
  | toolMount
  /-- TOOL_UNMOUNT (R112). -/
  | toolUnmount
  /-- ROLE_READ (R113). -/
  | roleRead
  /-- POOL_READ (R122). -/
  | poolRead
  /-- STATION_CONFIGURE (R133). -/
  | stationConfigure
  /-- STATION_START (R135). -/
  | stationStart
  /-- STATION_STOP (R136). -/
  | stationStop
  /-- STATION_HALT (R137). -/
  | stationHalt
  /-- STATION_RESUME (R139). -/
  | stationResume
  /-- STATION_READ (R140). -/
  | stationRead
  /-- SWAP_DONE (R155). -/
  | swapDone
  /-- SWAP_REFUSED (R156). -/
  | swapRefused
  /-- SWAP_DEFER (R158). -/
  | swapDefer
  /-- SWAP_RESUME (R159). -/
  | swapResume
  /-- ORDER_READ (R160). -/
  | orderRead
  /-- LINK_RATE (R184). -/
  | linkRate
  /-- STATUS (R185). -/
  | status
  /-- UNKNOWN_KIND (R176). -/
  | unknownKind
  deriving DecidableEq, Repr

end Sys2Proof
end

