-- ==== Sys2Proof/Decode.lean ====
section
/-!
DEFINITION. Words of the opcode table. spec/opcode_table.json gives no row any bits (every row is a step
of the part, none an encoded word), so no word spells a command. The wire formats the spec does give
(frames, records, requests) are read in Machine/Operands.lean.
-/

namespace Sys2Proof

/-- The command that the low `nbits` bits of `w` spell by the table's bits: the table gives none. -/
def decodeTableWord (_nbits _w : Nat) : Option Instr := none

end Sys2Proof
end

