-- ==== Sys2Proof/Config.lean ====
section
/-!
DEFINITION. The constants of the part: capacities, bounds and rates the spec fixes for every Fervato 3208.
The spec leaves no value of the part to an implementation, so no free value stands here.
-/

namespace Sys2Proof.Config

/-- R65: records a station's intake queue holds. -/
def intakeCapacity : Nat := 16

/-- R175: frames the cell request intake holds. -/
def cellCapacity : Nat := 4

/-- R173: answer bytes a link's answer queue holds. -/
def answerCapacity : Nat := 488

/-- R166: the longest payload of a frame. -/
def maxPayload : Nat := 480

/-- R89: entries of a verdict history. -/
def historyLength : Nat := 4

/-- R171: milliseconds without a byte after which the gap timer expires. -/
def gapMs : Nat := 25

/-- R196: time base value at which the write hold of start-up ends. -/
def writeHoldMs : Nat := 50

/-- Upper bound of a 16-bit account or counter (R6, R81). -/
def max16 : Nat := 65535

/-- Upper bound of a 32-bit account or counter (R6, R81). -/
def max32 : Nat := 4294967295

/-- R42: the bound at which the projection saturates. -/
def maxProjection : Nat := 16777215

/-- R34: the largest dress depth, in tenths of a micrometre. -/
def maxDepth : Nat := 5000

/-- R70: the largest peak load, in per mille. -/
def maxPeak : Nat := 2000

end Sys2Proof.Config
end

