-- ==== Sys2Proof/Machine/State.lean ====
section
/-!
DEFINITION. The state of the Fervato 3208 as plain data: every piece of state a block of the part owns
(00_scope.md, "Functional Block Overview"), the stored copies of the record store, the serial links, and
the queue of commands that are waiting. `State.reset` is the part as it leaves the factory, right after
its one reset.
-/

namespace Sys2Proof.Machine

/-! ### Tool table (chapter 1) -/

/-- Tool states (R8). -/
inductive ToolState where
  | vacant | stored | reserved | active | worn | broken | retired
  deriving DecidableEq, Repr

/-- The wheel life group (R4). -/
structure WheelLife where
  dNew : Nat
  dMin : Nat
  dNow : Nat
  dressStep : Nat
  dressLimit : Nat
  warnDresses : Nat
  deriving DecidableEq, Repr

/-- The dresser life group (R5). -/
structure DresserLife where
  lifeBudget : Nat
  warnWu : Nat
  deriving DecidableEq, Repr

/-- The life group a record carries, which also says its kind (R2): absent in a VACANT record and in one
whose identity part failed at start-up. -/
inductive Life where
  | absent
  | wheel (w : WheelLife)
  | dresser (d : DresserLife)
  deriving DecidableEq, Repr

/-- The life accounts (R6): W_d, W_t, parts_total, parts_since_dress, dress_count, A and trip_count. -/
structure Accounts where
  wd : Nat
  wt : Nat
  partsTotal : Nat
  partsSinceDress : Nat
  dressCount : Nat
  avg : Nat
  tripCount : Nat
  deriving DecidableEq, Repr

/-- In what relation a tool stands to its role (R7). -/
inductive Relation where
  | reserved | staged | current
  deriving DecidableEq, Repr

/-- The role link (R7). -/
structure RoleLink where
  role : RoleId
  relation : Relation
  deriving DecidableEq, Repr

/-- The cause of a trip (R92). -/
inductive TripCause where
  | overload | noContact | strikes | dresser
  deriving DecidableEq, Repr

/-- A trip record (R93). -/
structure TripRecord where
  cause : TripCause
  role : RoleId
  step : Option Nat
  journal : Option Nat
  tag : Option Nat
  peak : Option Nat
  q : Option Nat
  stamp : Time
  deriving DecidableEq, Repr

/-- A tool record (R1) with its trip record, which is stored with it (R82). -/
structure ToolRecord where
  state : ToolState
  life : Life
  pool : Option PoolId
  label : List Byte
  recond : Nat
  acc : Accounts
  flags : Flags
  link : Option RoleLink
  trip : Option TripRecord
  deriving DecidableEq, Repr

/-! ### Verdict unit (chapter 5) -/

/-- The verdicts (R85, R87, R88). -/
inductive Verdict where
  | clean | hardOverload | hardNoContact | hardDresser
  | softHigh | softLow | softDresser | softGauge
  deriving DecidableEq, Repr

/-! ### Plan store (chapter 3) -/

/-- The kind of a plan step (R46). -/
inductive StepKind where
  | rough | finish | spark
  deriving DecidableEq, Repr

/-- One step of a cut plan (R46). -/
structure PlanStep where
  pos : Pos
  journal : Nat
  kind : StepKind
  baseCost : Nat
  eExp : Nat
  peakHi : Nat
  peakLo : Nat
  deriving DecidableEq, Repr

/-- The mode of a plan (R46). -/
inductive PlanMode where
  | standing | onePart
  deriving DecidableEq, Repr

/-- A cut plan whose every step is written; its station is the one whose slot holds it (R46). -/
structure Plan where
  revision : Nat
  mode : PlanMode
  steps : List PlanStep
  deriving DecidableEq, Repr

/-- The fill state of a staged plan (R49). -/
inductive FillState where
  | filling | complete
  deriving DecidableEq, Repr

/-- A staged plan (R49): a step that is `none` is not yet marked written. -/
structure StagedPlan where
  revision : Nat
  mode : PlanMode
  fill : FillState
  steps : List (Option PlanStep)
  deriving DecidableEq, Repr

/-- The three plan slots of a station (R49). -/
structure PlanSlots where
  active : Option Plan
  staged : Option StagedPlan
  returned : Option Plan
  deriving DecidableEq, Repr

/-! ### Station intake (chapter 4) -/

/-- The gauge result of a PART_END (R64). -/
inductive Gauge where
  | good | rework | scrap
  deriving DecidableEq, Repr

/-- The fields of a station record (R64). -/
inductive StationRecord where
  | partStart (tag expected : Nat)
  | cut (step peak energy : Nat)
  | dress (pos : Pos) (depth dresserPeak : Nat)
  | partEnd (tag : Nat) (gauge : Gauge)
  deriving DecidableEq, Repr

/-- A queued record with its record number and its arrival stamp (R65). -/
structure QueuedRecord where
  number : Byte
  record : StationRecord
  stamp : Time
  deriving DecidableEq, Repr

/-- A tool of the part's tool list, with the position it cuts at and its FINISH mark (R74). -/
structure PartTool where
  tool : ToolId
  pos : Pos
  finish : Bool
  deriving DecidableEq, Repr

/-- The part in progress (R74). -/
structure Part where
  tag : Nat
  tools : List PartTool
  deriving DecidableEq, Repr

/-- The station counters (R81). -/
structure Counters where
  good : Nat
  rework : Nat
  scrap : Nat
  abandoned : Nat
  repeats : Nat
  refused : Nat
  skipped : Nat
  deriving DecidableEq, Repr

/-- The state of one station intake (R65). -/
structure Intake where
  queue : List QueuedRecord
  lastNumber : Option Byte
  part : Option Part
  pointer : Nat
  counters : Counters
  deriving DecidableEq, Repr

/-! ### Station control (chapter 7) -/

/-- Station states (R123). -/
inductive StationState where
  | offline | ready | inPart | stopping | held | halted
  deriving DecidableEq, Repr

/-- Halt causes (R126). -/
inductive HaltCause where
  | breakage | overdue | sequence | plan | lapsed | store | cell
  deriving DecidableEq, Repr

/-- The six station settings (R131). -/
structure Settings where
  gatherMs : Nat
  gatherMaxMs : Nat
  orderTimeoutS : Nat
  rideAlongDresses : Nat
  rideAlongWu : Nat
  restartCharge : Nat
  deriving DecidableEq, Repr

/-- The directives that wait in the state directive slot (R130). -/
inductive StateDirective where
  | halt (cause : HaltCause)
  | hold
  | release
  deriving DecidableEq, Repr

/-- What station control holds for a station (R123). -/
structure Control where
  state : StationState
  cause : Option HaltCause
  haltTool : Option ToolId
  settings : Settings
  haltLine : Bool
  stateSlot : Option StateDirective
  dressSlot : Option (List Pos)
  deriving DecidableEq, Repr

/-! ### Swap control (chapter 8) -/

/-- A gather window (R141): the need list names positions of the window's station. -/
structure Window where
  needs : List Pos
  close : Time
  cap : Time
  deriving DecidableEq, Repr

/-- The reason of an order entry (R142). -/
inductive Reason where
  | worn | undersize | broken | rideAlong
  deriving DecidableEq, Repr

/-- The state of an order entry (R141). -/
inductive EntryState where
  | reserved | waiting | done
  deriving DecidableEq, Repr

/-- An entry of a swap order (R141); its role is at the order's station. -/
structure Entry where
  pos : Pos
  outgoing : ToolId
  incoming : Option ToolId
  reason : Reason
  state : EntryState
  deriving DecidableEq, Repr

/-- The state of an open order (R141); a station with no order reports NONE. -/
inductive OrderState where
  | ordered | deferred
  deriving DecidableEq, Repr

/-- A swap order (R141). -/
structure Order where
  state : OrderState
  entries : List Entry
  lapse : Nat
  opened : Time
  deriving DecidableEq, Repr

/-- What swap control holds for a station (R141). -/
structure Swap where
  window : Option Window
  order : Option Order
  deriving DecidableEq, Repr

/-- All that the blocks of the part hold for one station. -/
structure Station where
  intake : Intake
  plans : PlanSlots
  control : Control
  swap : Swap
  deriving DecidableEq, Repr

/-! ### Role table (chapter 6) -/

/-- Role states (R104). -/
inductive RoleState where
  | undefined | empty | running | needy | reserved | waiting | staged
  deriving DecidableEq, Repr

/-- The stored role record (R105). -/
structure RoleRecord where
  defined : Bool
  pool : Option PoolId
  takeoverMin : Nat
  strikeLimit : Nat
  eLo : Nat
  eHi : Nat
  dresserHi : Nat
  dresserLo : Nat
  dressCost : Nat
  current : Option ToolId
  staged : Option ToolId
  deriving DecidableEq, Repr

/-- A role: its stored record and its state, which is not stored (R103, R105). -/
structure Role where
  record : RoleRecord
  state : RoleState
  deriving DecidableEq, Repr

/-! ### Links (chapter 9) -/

/-- The six link rates (R184). -/
inductive Rate where
  | r19200 | r38400 | r57600 | r115200 | r230400 | r460800
  deriving DecidableEq, Repr

/-- The answer bytes (R172). -/
inductive Answer where
  | taken | badLead | badCheck | zeroLength | tooLong | gap | full | idle
  deriving DecidableEq, Repr

/-- A link's framer (R167). Each phase but HUNT holds the time of the last byte it received, from which
its gap timer runs (R171). PAYLOAD and CHECK, one phase of R167, are kept apart here (DESIGN CHOICE,
notes/assumptions/3.md). -/
inductive Framer where
  | hunt (run : Bool)
  | length (first : Option Byte) (crc : BitVec 16) (last : Time)
  | payload (got : Payload) (due : Nat) (crc : BitVec 16) (last : Time)
  | check (got : Payload) (first : Option Byte) (crc : BitVec 16) (last : Time)
  | discard (skip : Nat) (last : Time)
  deriving DecidableEq, Repr

/-- What a transmitter sends: a bare answer byte, or a frame with this payload (R173). -/
inductive TxItem where
  | answer (a : Answer)
  | directive (p : Payload)
  | reply (p : Payload)
  | notice (p : Payload)
  deriving DecidableEq, Repr

/-- What is being sent, and how much of it is left, in thousandths of a bit time (DESIGN CHOICE,
notes/assumptions/5.md). -/
structure Tx where
  item : TxItem
  left : Nat
  deriving DecidableEq, Repr

/-- One serial link: its rate and the change waiting for it (R184), its framer, its answer queue (R173)
and its transmitter, idle when `sending` is absent. -/
structure Link where
  rate : Rate
  pendingRate : Option Rate
  framer : Framer
  answers : List Answer
  sending : Option Tx
  deriving DecidableEq, Repr

/-- The notice kinds (R181). -/
inductive NoticeKind where
  | swapOrder | halt | warning
  deriving DecidableEq, Repr

/-- An entry of the notice queue (R181). -/
structure Notice where
  station : StationId
  kind : NoticeKind
  deriving DecidableEq, Repr

/-- The cell request intake (R175) and the reply slot (R176). A reply in the slot is the list of its
frames' payloads not yet begun; it is empty while the last frame is being sent. -/
structure Cell where
  intake : List Payload
  reply : Option (List Payload)
  deriving DecidableEq, Repr

/-! ### Record store (chapter 10) -/

/-- A stored record: sound, or failing its check with what is known of its image (R186). The bytes of an
image are not modelled (DESIGN CHOICE, notes/assumptions/7.md). -/
inductive Stored (α β : Type) where
  | sound (a : α)
  | failing (b : β)
  deriving DecidableEq, Repr

/-- What a tool record that fails its check reads as: its identity part, absent where that part fails its
own check too, and the rest of the image (R192). -/
structure BadTool where
  identity : Option Identity
  raw : RawTool
  deriving DecidableEq, Repr

/-- The identifiers of stored records (R186). -/
inductive RecordId where
  | tool (t : ToolId)
  | role (r : RoleId)
  | plan (n : StationId)
  | settings (n : StationId)
  deriving DecidableEq, Repr

/-- The content a write in flight carries, with the record it writes (R188). -/
inductive Content where
  | tool (t : ToolId) (c : ToolRecord)
  | role (r : RoleId) (c : RoleRecord)
  | plan (n : StationId) (c : Option Plan)
  | settings (n : StationId) (c : Settings)
  deriving DecidableEq, Repr

/-- The record store's state (R189). -/
inductive StoreState where
  | ok | failed
  deriving DecidableEq, Repr

/-- The stored copies, the only state that survives a power loss (R186, R190). -/
structure StoredCopies where
  tools : Vector (Stored ToolRecord BadTool) 64
  roles : Vector (Vector (Stored RoleRecord Unit) 5) 8
  plans : Vector (Stored (Option Plan) Unit) 8
  settings : Vector (Stored Settings Unit) 8
  deriving DecidableEq, Repr

/-- The record store's volatile state: the pending-write set by scan place (R187), the scan place
counted from 0 (R188), the write in flight, the failure counts and the store state (R189), and whether
the write hold of start-up still lasts (R196). -/
structure Store where
  marked : Vector Bool 120
  scan : Fin 120
  inFlight : Option Content
  failures : Vector Nat 120
  state : StoreState
  hold : Bool
  deriving DecidableEq, Repr

/-! ### The part -/

/-- The whole part. `powered` is the model's own: false from a POWER_LOSS to the next POWER_UP (DESIGN
CHOICE, notes/assumptions/4.md). `pending`, the model's own too, is the queue of commands that wait,
oldest first. -/
structure State where
  powered : Bool
  timeBase : Time
  tools : Vector ToolRecord 64
  histories : Vector (List Verdict) 64
  roles : Vector (Vector Role 5) 8
  pools : Vector (List RoleId) 8
  stations : Vector Station 8
  cell : Cell
  notices : List Notice
  links : Vector Link 9
  copies : StoredCopies
  store : Store
  pending : List Instr
  deriving DecidableEq, Repr

/-- Why a command is not one of the part's. -/
inductive Fault where
  /-- Raised by STATION_RECORD_ARRIVAL and CELL_FRAME_ARRIVAL whose payload is no payload of a frame
  (R166: 1 to 480 bytes). Safe: no such frame arrives, so no claim about the part is lost. -/
  | noSuchFrame
  deriving DecidableEq, Repr

/-- Why a command has no meaning here. -/
inductive Refusal where
  /-- Raised by `exec` for a command the model gives no meaning yet. Safe: the run stops. No arm of this
  model raises it. -/
  | notModelled (mnemonic : String)
  deriving DecidableEq, Repr

/-! ### Values at reset -/

/-- No flag set. -/
def noFlags : Flags :=
  ⟨false, false, false, false, false, false, false, false, false, false⟩

/-- Every account zero (R6). -/
def Accounts.zero : Accounts := ⟨0, 0, 0, 0, 0, 0, 0⟩

/-- A VACANT record with no flag set (R2, R6). -/
def ToolRecord.vacant : ToolRecord :=
  { state := .vacant, life := .absent, pool := none, label := [], recond := 0,
    acc := .zero, flags := noFlags, link := none, trip := none }

/-- The values of an UNDEFINED role (R105). -/
def RoleRecord.undefined : RoleRecord :=
  { defined := false, pool := none, takeoverMin := 0, strikeLimit := 2, eLo := 128, eHi := 640,
    dresserHi := 2000, dresserLo := 0, dressCost := 0, current := none, staged := none }

/-- The default settings (R131). -/
def Settings.default : Settings :=
  { gatherMs := 2000, gatherMaxMs := 10000, orderTimeoutS := 900, rideAlongDresses := 0,
    rideAlongWu := 0, restartCharge := 200 }

/-- Every counter zero (R81). -/
def Counters.zero : Counters := ⟨0, 0, 0, 0, 0, 0, 0⟩

/-- A station's state at the one reset, with the standing plan and the settings its stored records give
(R49, R65, R123, R141). -/
def Station.atReset (active : Option Plan) (settings : Settings) : Station :=
  { intake := { queue := [], lastNumber := none, part := none, pointer := 0, counters := .zero }
    plans := { active := active, staged := none, returned := none }
    control := { state := .offline, cause := none, haltTool := none, settings := settings,
                 haltLine := false, stateSlot := none, dressSlot := none }
    swap := { window := none, order := none } }

/-- A link at the one reset (R167, R173, R184). -/
def Link.atReset : Link :=
  { rate := .r115200, pendingRate := none, framer := .hunt false, answers := [], sending := none }

/-- The record store's volatile state at the one reset, before start-up marks any record (R187 to R189,
R196): the scan place is 120. -/
def Store.atReset : Store :=
  { marked := .replicate 120 false, scan := 119, inFlight := none, failures := .replicate 120 0,
    state := .ok, hold := true }

/-- The stored copies with which a part leaves the factory (R186). -/
def StoredCopies.factory : StoredCopies :=
  { tools := .replicate 64 (.sound .vacant)
    roles := .replicate 8 (.replicate 5 (.sound .undefined))
    plans := .replicate 8 (.sound none)
    settings := .replicate 8 (.sound .default) }

/-- The volatile state at the one reset over given stored copies, before any record is loaded: every live
record blank. -/
def State.blank (copies : StoredCopies) (pending : List Instr) : State :=
  { powered := true, timeBase := 0
    tools := .replicate 64 .vacant, histories := .replicate 64 []
    roles := .replicate 8 (.replicate 5 ⟨.undefined, .undefined⟩)
    pools := .replicate 8 []
    stations := .replicate 8 (Station.atReset none .default)
    cell := { intake := [], reply := none }
    notices := []
    links := .replicate 9 .atReset
    copies := copies, store := .atReset, pending := pending }

/-- The part right after its one reset, as it leaves the factory: every stored record has its factory
content (R186), so restoration loads blank records and marks nothing (DEDUCED, notes/assumptions/15.md). -/
def State.reset : State := State.blank .factory []

end Sys2Proof.Machine
end

