-- ==== Sys2Proof/Machine/Wear.lean ====
section
/-!
DEFINITION. The wear unit (chapter 2): cut charge, dress reduction, dresser charge, remaining life and
projection, as whole-number arithmetic formed exactly before any clamp or rounding (R28), and the record
figures drawn from it. Nothing here has state (R27).
-/

namespace Sys2Proof.Machine

/-- A quotient rounded up to the next whole number. -/
def ceilDiv (a b : Nat) : Nat := (a + b - 1) / b

/-- An addition to an account that saturates at its bound (R28). -/
def satAdd (bound a b : Nat) : Nat := min bound (a + b)

/-- The raw cut ratio q, in 1/256 (R29). -/
def rawRatio (energy eExp : Nat) : Nat := energy * 256 / eExp

/-- The clamped ratio q_c (R30). -/
def clampRatio (q : Nat) : Nat := max 128 (min q 1024)

/-- The cut charge C (R30). -/
def cutCharge (baseCost q : Nat) : Nat := ceilDiv (baseCost * clampRatio q) 256

/-- The W_d at which a wheel is OVERDUE (R33). -/
def overdueThreshold (dressLimit : Nat) : Nat := min (2 * dressLimit) Config.max16

/-- The effective dress depth r_eff (R34). -/
def effectiveDepth (r dressStep : Nat) : Nat := if r = 0 then dressStep else min r Config.maxDepth

/-- The diameter loss of a dress of radial depth `r`, in whole micrometres (R35). -/
def diameterLoss (r : Nat) : Nat := ceilDiv r 5

/-- The remaining dresses R (R38). -/
def remainingDresses (dNow dMin dressStep : Nat) : Nat :=
  if dNow ≤ dMin then 0 else (dNow - dMin) / diameterLoss dressStep

/-- The average parts per dress A after a dress (R37). -/
def averageAfter (dressCount avg n : Nat) : Nat :=
  if dressCount = 0 then 16 * n else (7 * avg + 16 * n) / 8

/-- The dresser ratio qd, in 1/256 (R40). -/
def dresserRatio (rEff dressStep : Nat) : Nat := min (rEff * 256 / dressStep) 1024

/-- The dresser charge (R40). -/
def dresserCharge (dressCost rEff dressStep : Nat) : Nat :=
  ceilDiv (dressCost * dresserRatio rEff dressStep) 256

/-- The projection of parts remaining P (R42). -/
def projectionOf (r avg partsSinceDress : Nat) : Nat :=
  min Config.maxProjection (r * avg / 16 + (avg / 16 - partsSinceDress))

/-- The kind of a record, by the life group it carries (R2). -/
def ToolRecord.kind (t : ToolRecord) : Option Kind :=
  match t.life with
  | .absent => none
  | .wheel _ => some .wheel
  | .dresser _ => some .dresser

/-- The remaining life: R for a wheel (R38), remaining WU for a dresser (R41), and 0 for a record
without a kind (R25, R192). -/
def ToolRecord.remaining (t : ToolRecord) : Nat :=
  match t.life with
  | .absent => 0
  | .wheel w => remainingDresses w.dNow w.dMin w.dressStep
  | .dresser d => d.lifeBudget - t.acc.wt

/-- The projection of a wheel (R42); a record that is no wheel has none and it is sent as 0 (R178). -/
def ToolRecord.projection (t : ToolRecord) : Nat :=
  match t.life with
  | .wheel _ => projectionOf t.remaining t.acc.avg t.acc.partsSinceDress
  | _ => 0

/-- The wear-out condition (R13). -/
def ToolRecord.wearOut (t : ToolRecord) : Bool :=
  match t.life with
  | .absent => false
  | .wheel w => t.flags.undersize || (t.flags.final && decide (w.dressLimit ≤ t.acc.wd))
  | .dresser _ => t.remaining == 0

/-- The warning condition (R17). -/
def ToolRecord.warns (t : ToolRecord) : Bool :=
  match t.life with
  | .absent => false
  | .wheel w => decide (t.remaining ≤ w.warnDresses)
  | .dresser d => decide (t.remaining ≤ d.warnWu)

end Sys2Proof.Machine
end

