-- ==== Sys2Proof/Machine/Flags.lean ====
section
/-!
DEFINITION. What charges, dresses and requests do to one tool record: its accounts and the flags each of
them raises or clears (R6, R13, R16 to R18, R31 to R44). What a change means for roles, stations and the
notice queue is asked elsewhere, of the state the record stands in.
-/

namespace Sys2Proof.Machine

/-- The wear test of R13: an ACTIVE tool that meets the wear-out condition becomes WORN; every other
state is kept. -/
def ToolRecord.wearTested (t : ToolRecord) : ToolRecord :=
  if t.state = .active ∧ t.wearOut = true then { t with state := .worn } else t

/-- Entry to service (R13): the tool becomes ACTIVE, or WORN if it meets the wear-out condition. -/
def ToolRecord.inService (t : ToolRecord) : ToolRecord :=
  ToolRecord.wearTested { t with state := .active }

/-- FINAL is set when no dress is left to a wheel (R16, R39, R44); it is never cleared here. -/
def ToolRecord.finalTested (t : ToolRecord) : ToolRecord :=
  match t.life with
  | .wheel _ => if t.remaining = 0 then { t with flags := { t.flags with final := true } } else t
  | _ => t

/-- DRESS_DUE is set on a wheel at or past dress_limit that is not FINAL (R32, R44). -/
def ToolRecord.dressDueTested (t : ToolRecord) : ToolRecord :=
  match t.life with
  | .wheel w =>
    if w.dressLimit ≤ t.acc.wd ∧ t.flags.final = false then
      { t with flags := { t.flags with dressDue := true } }
    else t
  | _ => t

/-- At a life evaluation DRESS_DUE is also cleared on a wheel below dress_limit (R16 step 2). -/
def ToolRecord.dressDueEvaluated (t : ToolRecord) : ToolRecord :=
  match t.life with
  | .wheel w =>
    if t.acc.wd < w.dressLimit then { t with flags := { t.flags with dressDue := false } }
    else t.dressDueTested
  | _ => t

/-- Whether a wheel's W_d is at or past its overdue threshold (R33); a dresser is never OVERDUE. -/
def ToolRecord.isOverdue (t : ToolRecord) : Bool :=
  match t.life with
  | .wheel w => decide (overdueThreshold w.dressLimit ≤ t.acc.wd)
  | _ => false

/-- OVERDUE is set at a cut charge that finds the threshold reached (R33). -/
def ToolRecord.overdueTested (t : ToolRecord) : ToolRecord :=
  if t.isOverdue = true then { t with flags := { t.flags with overdue := true } } else t

/-- The accounts and flags of a cut charge `c`, up to and including the dress interval test: W_d and W_t
rise, UNCONFIRMED is cleared (R31), then DRESS_DUE is set or the wear-out condition applied (R32). -/
def ToolRecord.charged (t : ToolRecord) (c : Nat) : ToolRecord :=
  ToolRecord.wearTested <| ToolRecord.dressDueTested
    { t with
      acc := { t.acc with wd := satAdd Config.max16 t.acc.wd c, wt := satAdd Config.max32 t.acc.wt c }
      flags := { t.flags with unconfirmed := false } }

/-- Steps 1 to 6 of R36, a wheel dress of reported depth `r`. -/
def ToolRecord.dressApplied (t : ToolRecord) (r : Nat) : ToolRecord :=
  match t.life with
  | .wheel w =>
    { t with
      life := .wheel { w with dNow := w.dNow - diameterLoss (effectiveDepth r w.dressStep) }
      acc := { t.acc with
        avg := averageAfter t.acc.dressCount t.acc.avg t.acc.partsSinceDress
        wd := 0
        partsSinceDress := 0
        dressCount := satAdd Config.max16 t.acc.dressCount 1 }
      flags := { t.flags with
        depthClamped := t.flags.depthClamped || decide (Config.maxDepth < r)
        dressDue := false
        overdue := false } }
  | _ => t

/-- UNDERSIZE is set when a dress leaves D_now below D_min (R39 step 1). -/
def ToolRecord.undersizeTested (t : ToolRecord) : ToolRecord :=
  match t.life with
  | .wheel w =>
    if w.dNow < w.dMin then { t with flags := { t.flags with undersize := true } } else t
  | _ => t

/-- A wheel dress with the conditions of R39 up to the wear-out test. -/
def ToolRecord.dressed (t : ToolRecord) (r : Nat) : ToolRecord :=
  (t.dressApplied r).undersizeTested.finalTested.wearTested

/-- A dresser charge `c` with the wear-out test of R41: W_t rises and UNCONFIRMED is cleared (R40). -/
def ToolRecord.dresserCharged (t : ToolRecord) (c : Nat) : ToolRecord :=
  ToolRecord.wearTested
    { t with
      acc := { t.acc with wt := satAdd Config.max32 t.acc.wt c }
      flags := { t.flags with unconfirmed := false } }

/-- The restart charge `c` with its evaluation up to the wear-out test (R44). -/
def ToolRecord.restarted (t : ToolRecord) (c : Nat) : ToolRecord :=
  let wt := satAdd Config.max32 t.acc.wt c
  let flags := { t.flags with unconfirmed := true }
  match t.life with
  | .wheel _ =>
    (ToolRecord.dressDueTested (ToolRecord.finalTested
      { t with
        acc := { t.acc with wd := satAdd Config.max16 t.acc.wd c, wt := wt }
        flags := flags })).wearTested
  | _ => ToolRecord.wearTested { t with acc := { t.acc with wt := wt }, flags := flags }

/-- The part count of R79 step 1. -/
def ToolRecord.partCounted (t : ToolRecord) : ToolRecord :=
  { t with
    acc := { t.acc with
      partsTotal := satAdd Config.max32 t.acc.partsTotal 1
      partsSinceDress := satAdd Config.max16 t.acc.partsSinceDress 1 } }

/-- A trip with the trip record `trip` (R92): the count moves, the record is replaced, BREAK_MARK is set,
and an ACTIVE or WORN tool becomes BROKEN. -/
def ToolRecord.tripped (t : ToolRecord) (trip : TripRecord) : ToolRecord :=
  { t with
    state := if t.state = .active ∨ t.state = .worn then .broken else t.state
    acc := { t.acc with tripCount := (t.acc.tripCount + 1) % 65536 }
    flags := { t.flags with breakMark := true }
    trip := some trip }

/-- A trip of an ACTIVE or WORN tool is a first trip, any other a repeat trip (R92). -/
def ToolRecord.firstTrips (t : ToolRecord) : Bool :=
  t.state == .active || t.state == .worn

/-- PINNED set or cleared (R15). -/
def ToolRecord.withPinned (t : ToolRecord) (b : Bool) : ToolRecord :=
  { t with flags := { t.flags with pinned := b } }

/-- BREAK_MARK cleared, as an accepted release does (R98 to R100). -/
def ToolRecord.markCleared (t : ToolRecord) : ToolRecord :=
  { t with flags := { t.flags with breakMark := false } }

/-- The tool leaves its role for the store (R10, R11). -/
def ToolRecord.toStore (t : ToolRecord) : ToolRecord := { t with state := .stored, link := none }

/-- The tool leaves its role for the retired set, its accounts, flags and trip record kept (R11, R12). -/
def ToolRecord.toRetired (t : ToolRecord) : ToolRecord := { t with state := .retired, link := none }

/-- The tool is set aside for a role (R10). -/
def ToolRecord.reservedFor (t : ToolRecord) (r : RoleId) : ToolRecord :=
  { t with state := .reserved, link := some ⟨r, .reserved⟩ }

/-- Confirmation by Swap Done (R10): the relation becomes STAGED, the state stays RESERVED. -/
def ToolRecord.stagedFor (t : ToolRecord) (r : RoleId) : ToolRecord :=
  { t with link := some ⟨r, .staged⟩ }

/-- The tool is mounted at a role and enters service (R11 to R13). -/
def ToolRecord.mountedAt (t : ToolRecord) (r : RoleId) : ToolRecord :=
  ToolRecord.inService { t with link := some ⟨r, .current⟩ }

/-- The ten flags as the 16-bit field of the value code table. -/
def flagBits (f : Flags) : Nat :=
  f.pinned.toNat + 2 * f.final.toNat + 4 * f.dressDue.toNat + 8 * f.overdue.toNat
    + 16 * f.lifeWarn.toNat + 32 * f.undersize.toNat + 64 * f.depthClamped.toNat
    + 128 * f.breakMark.toNat + 256 * f.unconfirmed.toNat + 512 * f.storeFault.toNat

end Sys2Proof.Machine
end

