-- ==== Sys2Proof/Machine/Operands.lean ====
section
/-!
DEFINITION. The wire (chapter 9): the frame check, frames as bytes, the numbers a payload field holds,
the value codes both ways, station records as payloads, and the fields that requests carry (R166, R177,
R178 and the byte layouts). Everything here is a function of bytes alone.
-/

namespace Sys2Proof.Machine

/-! ### Numbers, low byte first (R178) -/

/-- The number that bytes spell, low byte first. -/
def leNat : List Byte → Nat
  | [] => 0
  | b :: bs => b.toNat + 256 * leNat bs

/-- A number as `size` bytes, low byte first. -/
def le : (size : Nat) → (v : Nat) → List Byte
  | 0, _ => []
  | k + 1, v => BitVec.ofNat 8 v :: le k (v / 256)

/-- The number in the `size` bytes of payload `p` from offset `off` on. -/
def field (p : Payload) (off size : Nat) : Nat := leNat ((p.drop off).take size)

/-- A flag or yes-or-no field (R178). -/
def boolByte (b : Bool) : List Byte := [if b then 1 else 0]

/-- An optional number whose range excludes 0, sent as 0 when absent (R178). -/
def leOrZero (size : Nat) (v : Option Nat) : List Byte := le size (v.getD 0)

/-- Any other optional number: a presence byte, and the number, 0 when absent (R178). -/
def lePresent (size : Nat) (v : Option Nat) : List Byte := boolByte v.isSome ++ le size (v.getD 0)

/-- A text field: its length, then 16 characters, 0x20 after the text (R178). -/
def textField (label : List Byte) : List Byte :=
  le 1 label.length ++ label.take 16 ++ List.replicate (16 - label.length) 0x20

/-! ### The frame check (R166) -/

/-- One bit of the check: shifted left, with the polynomial 0x1021 where a one falls out. -/
def crcBit (c : BitVec 16) : BitVec 16 := if c.msb then (c <<< 1) ^^^ 0x1021 else c <<< 1

/-- One byte of the check, most significant bit first. -/
def crcByte (c : BitVec 16) (b : Byte) : BitVec 16 :=
  let c0 := c ^^^ (b.setWidth 16 <<< 8)
  crcBit (crcBit (crcBit (crcBit (crcBit (crcBit (crcBit (crcBit c0)))))))

/-- The accumulator's first value. -/
def crcStart : BitVec 16 := 0xFFFF

/-- The check over bytes in the order sent. -/
def crc (bs : List Byte) : BitVec 16 := bs.foldl crcByte crcStart

/-- The lead byte. -/
def leadByte : Byte := 0xA6

/-- The two check bytes, high byte first. -/
def checkBytes (c : BitVec 16) : List Byte := [(c >>> 8).setWidth 8, c.setWidth 8]

/-- The length field and the payload: the bytes the check covers. -/
def checked (p : Payload) : List Byte := le 2 p.length ++ p

/-- A payload as the bytes of its frame (R166). -/
def frameBytes (p : Payload) : List Byte := leadByte :: (checked p ++ checkBytes (crc (checked p)))

/-! ### Names from numbers -/

/-- A tool number 1 to 64. -/
def toolOf (n : Nat) : Option ToolId := if h : 1 ≤ n ∧ n ≤ 64 then some ⟨n - 1, by omega⟩ else none

/-- A station number 1 to 8. -/
def stationOf (n : Nat) : Option StationId := if h : 1 ≤ n ∧ n ≤ 8 then some ⟨n - 1, by omega⟩ else none

/-- A pool number 1 to 8. -/
def poolOf (n : Nat) : Option PoolId := if h : 1 ≤ n ∧ n ≤ 8 then some ⟨n - 1, by omega⟩ else none

/-- A position 0 to 4. -/
def posOf (n : Nat) : Option Pos := if h : n < 5 then some ⟨n, h⟩ else none

/-- A wheel position 1 to 4. -/
def wheelPosOf (n : Nat) : Option Pos := if n = 0 then none else posOf n

/-- A link number 0 to 8. -/
def linkOf (n : Nat) : Option LinkId := if h : n < 9 then some ⟨n, h⟩ else none

/-- The number of a tool, station or pool on the wire. -/
def num {k : Nat} (i : Fin k) : Nat := i.val + 1

/-- The station link of a station. -/
def stationLink (n : StationId) : LinkId := n.succ

/-- The kind of the tools a position takes (R103). -/
def posKind (p : Pos) : Kind := if p = 0 then .dresser else .wheel

/-- The wheel positions, ascending. -/
def wheelPositions : List Pos := [1, 2, 3, 4]

/-- All positions of a station, ascending. -/
def positions : List Pos := [0, 1, 2, 3, 4]

/-- All stations, ascending. -/
def stationIds : List StationId := List.finRange 8

/-- All tools, ascending. -/
def toolIds : List ToolId := List.finRange 64

/-- All roles, station by station, position 0 to 4 (R186). -/
def roleIds : List RoleId := stationIds.flatMap fun n => positions.map fun p => ⟨n, p⟩

/-! ### Value codes -/

def ToolState.code : ToolState → Nat
  | .vacant => 0 | .stored => 1 | .reserved => 2 | .active => 3 | .worn => 4 | .broken => 5 | .retired => 6

def kindCode : Option Kind → Nat
  | none => 0 | some .wheel => 1 | some .dresser => 2

def kindOfCode (n : Nat) : Option Kind :=
  if n = 1 then some .wheel else if n = 2 then some .dresser else none

def Relation.code : Relation → Nat
  | .reserved => 1 | .staged => 2 | .current => 3

def Verdict.code : Verdict → Nat
  | .clean => 1 | .hardOverload => 2 | .hardNoContact => 3 | .hardDresser => 4
  | .softHigh => 5 | .softLow => 6 | .softDresser => 7 | .softGauge => 8

def TripCause.code : TripCause → Nat
  | .overload => 1 | .noContact => 2 | .strikes => 3 | .dresser => 4

def tripCauseOfCode (n : Nat) : Option TripCause :=
  if n = 1 then some .overload else if n = 2 then some .noContact
  else if n = 3 then some .strikes else if n = 4 then some .dresser else none

def StationState.code : StationState → Nat
  | .offline => 0 | .ready => 1 | .inPart => 2 | .stopping => 3 | .held => 4 | .halted => 5

def HaltCause.code : HaltCause → Nat
  | .breakage => 1 | .overdue => 2 | .sequence => 3 | .plan => 4 | .lapsed => 5 | .store => 6 | .cell => 7

def RoleState.code : RoleState → Nat
  | .undefined => 0 | .empty => 1 | .running => 2 | .needy => 3 | .reserved => 4 | .waiting => 5 | .staged => 6

/-- The code of a station's order state; NONE where it has no order (R141). -/
def orderCode : Option OrderState → Nat
  | none => 0 | some .ordered => 1 | some .deferred => 2

def Reason.code : Reason → Nat
  | .worn => 1 | .undersize => 2 | .broken => 3 | .rideAlong => 4

def EntryState.code : EntryState → Nat
  | .reserved => 1 | .waiting => 2 | .done => 3

def StepKind.code : StepKind → Nat
  | .rough => 1 | .finish => 2 | .spark => 3

def stepKindOfCode (n : Nat) : Option StepKind :=
  if n = 1 then some .rough else if n = 2 then some .finish else if n = 3 then some .spark else none

def PlanMode.code : PlanMode → Nat
  | .standing => 1 | .onePart => 2

def planModeOfCode (n : Nat) : Option PlanMode :=
  if n = 1 then some .standing else if n = 2 then some .onePart else none

def FillState.code : FillState → Nat
  | .filling => 1 | .complete => 2

def gaugeOfCode (n : Nat) : Option Gauge :=
  if n = 1 then some .good else if n = 2 then some .rework else if n = 3 then some .scrap else none

def StoreState.code : StoreState → Nat
  | .ok => 0 | .failed => 1

def Rate.code : Rate → Nat
  | .r19200 => 1 | .r38400 => 2 | .r57600 => 3 | .r115200 => 4 | .r230400 => 5 | .r460800 => 6

def rateOfCode (n : Nat) : Option Rate :=
  if n = 1 then some .r19200 else if n = 2 then some .r38400 else if n = 3 then some .r57600
  else if n = 4 then some .r115200 else if n = 5 then some .r230400 else if n = 6 then some .r460800
  else none

/-- The bit rate, in bit/s (value code table). -/
def Rate.bits : Rate → Nat
  | .r19200 => 19200 | .r38400 => 38400 | .r57600 => 57600
  | .r115200 => 115200 | .r230400 => 230400 | .r460800 => 460800

/-- The answer bytes (R172). -/
def Answer.code : Answer → Byte
  | .taken => 0x40 | .badLead => 0x41 | .badCheck => 0x42 | .zeroLength => 0x43
  | .tooLong => 0x44 | .gap => 0x45 | .full => 0x46 | .idle => 0x47

/-- The reply codes (R177). -/
inductive ReplyCode where
  | done | unknownKind | badLength | badValue | notDefined | wrongState | inUse | locked
  | stale | noOrder | deferred | badPlan
  deriving DecidableEq, Repr

def ReplyCode.code : ReplyCode → Byte
  | .done => 0x00 | .unknownKind => 0x01 | .badLength => 0x02 | .badValue => 0x03 | .notDefined => 0x04
  | .wrongState => 0x05 | .inUse => 0x06 | .locked => 0x07 | .stale => 0x08 | .noOrder => 0x09
  | .deferred => 0x0A | .badPlan => 0x0B

/-- A reply's payload: the envelope, and data with DONE alone (R177). -/
def replyPayload (kind : Byte) (code : ReplyCode) (data : List Byte) : Payload :=
  0x80 :: kind :: code.code :: (if code = .done then data else [])

/-! ### Frames the part sends -/

/-- The bytes an item puts on the line: a bare answer byte, or a whole frame (R172, R173). -/
def TxItem.bytes : TxItem → List Byte
  | .answer a => [a.code]
  | .directive p => frameBytes p
  | .reply p => frameBytes p
  | .notice p => frameBytes p

/-- How long an item takes, in thousandths of a bit time: a byte takes 10 bit times (R184). -/
def TxItem.duration (i : TxItem) : Nat := 10000 * i.bytes.length

/-- The payload of a state directive. -/
def StateDirective.payload : StateDirective → Payload
  | .halt c => 0x08 :: le 1 c.code
  | .hold => [0x09]
  | .release => [0x0A]

/-- The payload of a DRESS directive naming positions. -/
def dressPayload (ps : List Pos) : Payload :=
  0x0B :: (le 1 ps.length ++ ps.flatMap fun p => le 1 p.val)

/-! ### Station records (R64, R66) -/

/-- A station record with its record number, or nothing where the payload is malformed (R66 step 2): a
kind that is no record kind, a length that is not its kind's, a DRESS position outside 1 to 4, or a gauge
result that is none of the three. -/
def parseRecord (p : Payload) : Option (Byte × StationRecord) :=
  match p with
  | kind :: number :: _ =>
    if kind = 0x01 ∧ p.length = 8 then
      some (number, .partStart (field p 2 4) (field p 6 2))
    else if kind = 0x02 ∧ p.length = 7 then
      some (number, .cut (field p 2 1) (field p 3 2) (field p 5 2))
    else if kind = 0x03 ∧ p.length = 7 then
      (wheelPosOf (field p 2 1)).map fun pos => (number, .dress pos (field p 3 2) (field p 5 2))
    else if kind = 0x04 ∧ p.length = 7 then
      (gaugeOfCode (field p 6 1)).map fun g => (number, .partEnd (field p 2 4) g)
    else none
  | _ => none

/-! ### Fields of requests -/

/-- Whether every byte is a printable character, 0x20 to 0x7E. -/
def printable (bs : List Byte) : Bool := bs.all fun b => decide (0x20 ≤ b.toNat ∧ b.toNat ≤ 0x7E)

/-- The life group that a Tool Enter payload gives, where the kind and the fields of that kind lie in
range; the fields of the other kind are ignored (R4, R5, R20). -/
def enteredLife (p : Payload) : Option Life :=
  let dNew := field p 21 4
  let dMin := field p 25 4
  let dressStep := field p 29 2
  let dressLimit := field p 31 2
  let warnDresses := field p 33 2
  let lifeBudget := field p 35 4
  let warnWu := field p 39 4
  match kindOfCode (field p 2 1) with
  | some .wheel =>
    if 50000 ≤ dNew ∧ dNew ≤ 1200000 ∧ 40000 ≤ dMin ∧ dMin + 1 ≤ dNew ∧ 1 ≤ dressStep ∧ dressStep ≤ 5000
        ∧ 1 ≤ dressLimit ∧ dressLimit ≤ 60000 ∧ warnDresses ≤ 10000 then
      some (.wheel ⟨dNew, dMin, dNew, dressStep, dressLimit, warnDresses⟩)
    else none
  | some .dresser =>
    if 1 ≤ lifeBudget ∧ lifeBudget ≤ 1000000000 ∧ warnWu ≤ lifeBudget then
      some (.dresser ⟨lifeBudget, warnWu⟩)
    else none
  | none => none

/-- The label a Tool Enter payload gives, where its length is 1 to 16 and its characters printable. -/
def enteredLabel (p : Payload) : Option (List Byte) :=
  let n := field p 4 1
  let label := (p.drop 5).take n
  if 1 ≤ n ∧ n ≤ 16 ∧ printable label = true then some label else none

/-- The plan step that the 11 bytes from offset `off` on spell, where every field lies in the range of
R46. -/
def parseStep (p : Payload) (off : Nat) : Option PlanStep :=
  let journal := field p (off + 1) 1
  let baseCost := field p (off + 3) 2
  let eExp := field p (off + 5) 2
  let peakHi := field p (off + 7) 2
  let peakLo := field p (off + 9) 2
  match wheelPosOf (field p off 1), stepKindOfCode (field p (off + 2) 1) with
  | some pos, some kind =>
    if 1 ≤ journal ∧ journal ≤ 15 ∧ baseCost ≤ 4000 ∧ 1 ≤ eExp ∧ 1 ≤ peakHi ∧ peakHi ≤ 2000
        ∧ peakLo < peakHi then
      some ⟨pos, journal, kind, baseCost, eExp, peakHi, peakLo⟩
    else none
  | _, _ => none

/-- The 11 bytes of a plan step. -/
def stepBytes (s : PlanStep) : List Byte :=
  le 1 s.pos.val ++ le 1 s.journal ++ le 1 s.kind.code ++ le 2 s.baseCost ++ le 2 s.eExp
    ++ le 2 s.peakHi ++ le 2 s.peakLo

/-- The steps of a Plan Steps payload, all of them or none (R53). -/
def parseSteps (p : Payload) : Option (List PlanStep) :=
  (List.range (field p 3 1)).mapM fun i => parseStep p (4 + 11 * i)

/-- The six settings of a Station Configure payload, where each lies in its range (R131, R133). -/
def parseSettings (p : Payload) : Option Settings :=
  let s : Settings :=
    { gatherMs := field p 2 2, gatherMaxMs := field p 4 4, orderTimeoutS := field p 8 2,
      rideAlongDresses := field p 10 2, rideAlongWu := field p 12 4, restartCharge := field p 16 2 }
  if s.gatherMs ≤ 60000 ∧ s.gatherMs ≤ s.gatherMaxMs ∧ s.gatherMaxMs ≤ 120000 ∧ 10 ≤ s.orderTimeoutS
      ∧ s.orderTimeoutS ≤ 7200 ∧ s.rideAlongDresses ≤ 1000 ∧ s.rideAlongWu ≤ 1000000
      ∧ s.restartCharge ≤ 4000 then
    some s
  else none

/-- The role fields a Role Define payload writes over a role's record, where the pool and the fields of
the position's kind lie in range; the fields of the other kind are ignored (R109). -/
def definedRole (p : Payload) (kind : Kind) (old : RoleRecord) : Option RoleRecord :=
  let takeoverMin := field p 4 4
  let strikeLimit := field p 8 1
  let eLo := field p 9 2
  let eHi := field p 11 2
  let dresserHi := field p 13 2
  let dresserLo := field p 15 2
  let dressCost := field p 17 2
  match poolOf (field p 3 1), kind with
  | some pool, .wheel =>
    if takeoverMin ≤ 65535 ∧ 1 ≤ strikeLimit ∧ strikeLimit ≤ 4 ∧ eLo ≤ 1024 ∧ 256 ≤ eHi ∧ eHi ≤ 4096 then
      some { old with
        defined := true, pool := some pool, takeoverMin := takeoverMin, strikeLimit := strikeLimit,
        eLo := eLo, eHi := eHi }
    else none
  | some pool, .dresser =>
    if takeoverMin ≤ 1000000000 ∧ 1 ≤ strikeLimit ∧ strikeLimit ≤ 4 ∧ 1 ≤ dresserHi ∧ dresserHi ≤ 2000
        ∧ dresserLo < dresserHi ∧ dressCost ≤ 4000 then
      some { old with
        defined := true, pool := some pool, takeoverMin := takeoverMin, strikeLimit := strikeLimit,
        dresserHi := dresserHi, dresserLo := dresserLo, dressCost := dressCost }
    else none
  | none, _ => none

/-- The kinds of cell requests (kind code table). -/
def isRequestKind (k : Byte) : Bool :=
  let n := k.toNat
  decide ((0x10 ≤ n ∧ n ≤ 0x18) ∨ (0x20 ≤ n ∧ n ≤ 0x23) ∨ (0x30 ≤ n ∧ n ≤ 0x35)
    ∨ (0x40 ≤ n ∧ n ≤ 0x45) ∨ (0x50 ≤ n ∧ n ≤ 0x54) ∨ n = 0x60 ∨ n = 0x61)

end Sys2Proof.Machine
end

