-- ==== Sys2Proof/Machine/Ops.lean ====
section
/-!
DEFINITION. The named operations on the state that every chapter uses: reading and writing one tool, role
or station, marking stored records and beginning a store write (R187, R188), the notice queue (R181), the
link transmitters (R130, R173, R174), directives and halts (R124, R125), and the taking of a record or a
request that every such command goes through (R68, R176).
-/

namespace Sys2Proof.Machine

/-- The outcome of a command of this part. -/
abbrev Result := Host.Outcome State Fault Refusal

/-! ### Reading and writing one tool, role, station or link -/

def State.tool (s : State) (t : ToolId) : ToolRecord := s.tools[t]

def State.history (s : State) (t : ToolId) : List Verdict := s.histories[t]

def State.role (s : State) (r : RoleId) : Role := s.roles[r.station][r.pos]

def State.station (s : State) (n : StationId) : Station := s.stations[n]

def State.link (s : State) (l : LinkId) : Link := s.links[l]

def State.pool (s : State) (p : PoolId) : List RoleId := s.pools[p]

def State.setHistory (s : State) (t : ToolId) (h : List Verdict) : State :=
  { s with histories := s.histories.set t h }

def State.setStation (s : State) (n : StationId) (x : Station) : State :=
  { s with stations := s.stations.set n x }

def State.setLink (s : State) (l : LinkId) (x : Link) : State :=
  { s with links := s.links.set l x }

def State.setPool (s : State) (p : PoolId) (q : List RoleId) : State :=
  { s with pools := s.pools.set p q }

def State.setRole (s : State) (r : RoleId) (x : Role) : State :=
  { s with roles := s.roles.set r.station (s.roles[r.station].set r.pos x) }

/-- The state of a role alone, which is not stored (R105). -/
def State.setRoleState (s : State) (r : RoleId) (x : RoleState) : State :=
  s.setRole r { s.role r with state := x }

def State.setIntake (s : State) (n : StationId) (x : Intake) : State :=
  s.setStation n { s.station n with intake := x }

def State.setPlans (s : State) (n : StationId) (x : PlanSlots) : State :=
  s.setStation n { s.station n with plans := x }

def State.setControl (s : State) (n : StationId) (x : Control) : State :=
  s.setStation n { s.station n with control := x }

def State.setSwap (s : State) (n : StationId) (x : Swap) : State :=
  s.setStation n { s.station n with swap := x }

def State.stationState (s : State) (n : StationId) : StationState := (s.station n).control.state

/-- A move of the station among its states that touches nothing else (R124). -/
def State.setStationState (s : State) (n : StationId) (x : StationState) : State :=
  s.setControl n { (s.station n).control with state := x }

def State.setCounters (s : State) (n : StationId) (c : Counters) : State :=
  s.setIntake n { (s.station n).intake with counters := c }

/-- The station's refused_records counter rises by 1 (R81). -/
def State.countRefused (s : State) (n : StationId) : State :=
  let c := (s.station n).intake.counters
  s.setCounters n { c with refused := satAdd Config.max16 c.refused 1 }

/-! ### The pending-write set and the scan (R187, R188) -/

/-- A record's place in the scan order, counted from 0 (R186 counts from 1). -/
def RecordId.place : RecordId → Fin 120
  | .tool t => ⟨t.val, by omega⟩
  | .role r => ⟨64 + 5 * r.station.val + r.pos.val, by omega⟩
  | .plan n => ⟨104 + n.val, by omega⟩
  | .settings n => ⟨112 + n.val, by omega⟩

/-- The identifiers in scan order (R186). -/
def scanOrder : List RecordId :=
  toolIds.map .tool ++ roleIds.map .role ++ stationIds.map .plan ++ stationIds.map .settings

/-- An owner marks a record (R187). -/
def State.mark (s : State) (id : RecordId) : State :=
  { s with store := { s.store with marked := s.store.marked.set id.place true } }

/-- A tool record takes new content; the record is marked if that alters it (R1, R187; DEDUCED,
notes/assumptions/9.md). -/
def State.putTool (s : State) (t : ToolId) (x : ToolRecord) : State :=
  if s.tool t = x then s else ({ s with tools := s.tools.set t x }).mark (.tool t)

/-- A role record takes new content; the record is marked if that alters it (R105, R187; DEDUCED,
notes/assumptions/9.md). -/
def State.putRole (s : State) (r : RoleId) (x : RoleRecord) : State :=
  if (s.role r).record = x then s else (s.setRole r { s.role r with record := x }).mark (.role r)

/-- The station's standing plan (R50): the active plan if it is STANDING, else the return plan. -/
def PlanSlots.standing (p : PlanSlots) : Option Plan :=
  match p.active with
  | some a => if a.mode = .standing then some a else p.returned
  | none => p.returned

/-- A record's content from its owner's live copy (R188). -/
def State.liveContent (s : State) : RecordId → Content
  | .tool t => .tool t (s.tool t)
  | .role r => .role r (s.role r).record
  | .plan n => .plan n (s.station n).plans.standing
  | .settings n => .settings n (s.station n).control.settings

/-- The first marked identifier in the scan order after the scan place, the search running on from place
120 to place 1 (R188). -/
def Store.nextMarked (st : Store) : Option RecordId :=
  (scanOrder.drop (st.scan.val + 1) ++ scanOrder.take (st.scan.val + 1)).find?
    fun id => st.marked[id.place]

/-- A write begins if the hold has ended, none is in flight and the set is not empty (R188). -/
def State.beginWrite (s : State) : State :=
  if s.powered = true ∧ s.store.hold = false ∧ s.store.inFlight = none then
    match s.store.nextMarked with
    | none => s
    | some id =>
      { s with store := { s.store with
          marked := s.store.marked.set id.place false
          scan := id.place
          inFlight := some (s.liveContent id) } }
  else s

/-! ### Time -/

/-- The time base value `ms` milliseconds after `t`. -/
def Time.after (t : Time) (ms : Nat) : Time := t + BitVec.ofNat 48 ms

/-- The milliseconds from `now` to the deadline `d`, 0 once it is reached: a deadline lies less than half
the time base's range ahead (DESIGN CHOICE, notes/assumptions/8.md). -/
def msLeft (now d : Time) : Nat :=
  if (d - now).toNat < 2 ^ 47 then (d - now).toNat else 0

/-- Whether the deadline `d` is reached at `now`. -/
def reached (now d : Time) : Bool := msLeft now d == 0

/-! ### Notices (R181) -/

/-- A pair is queued: it joins the end of the queue unless the same pair already waits. -/
def State.queueNotice (s : State) (n : StationId) (k : NoticeKind) : State :=
  if ⟨n, k⟩ ∈ s.notices then s else { s with notices := s.notices ++ [⟨n, k⟩] }

/-! ### Transmitters (R130, R173, R174, R184) -/

/-- A change of the link's rate waits and the transmission it waited for has ended: on the cell link the
reply's last byte, on a station link the answer or directive being sent (R184). -/
def State.rateDue (s : State) (l : LinkId) : Bool :=
  (s.link l).pendingRate.isSome && (s.link l).sending.isNone && (l != 0 || s.cell.reply.isNone)

/-- The transmitter is free to begin something. -/
def State.txReady (s : State) (l : LinkId) : Bool :=
  (s.link l).sending.isNone && !s.rateDue l

/-- The transmitter begins an item, which it will send whole. -/
def State.transmit (s : State) (l : LinkId) (i : TxItem) : State :=
  s.setLink l { s.link l with sending := some ⟨i, i.duration⟩ }

/-- A free transmitter sends the oldest waiting answer byte (R173). -/
def State.sendAnswer (s : State) (l : LinkId) : State :=
  match (s.link l).answers with
  | [] => s
  | a :: rest =>
    if s.txReady l = true then (s.setLink l { s.link l with answers := rest }).transmit l (.answer a) else s

/-- An answer byte is asked on a link: it joins the answer queue, and an idle transmitter sends the oldest
at once (R173). A full queue, which R173 says is never met, loses the answer (DESIGN CHOICE,
notes/assumptions/6.md). -/
def State.askAnswer (s : State) (l : LinkId) (a : Answer) : State :=
  let x := s.link l
  if x.answers.length < Config.answerCapacity then
    (s.setLink l { x with answers := x.answers ++ [a] }).sendAnswer l
  else s

/-- A free station link transmitter with no answer waiting sends the waiting state directive, or else the
waiting DRESS; the slot is emptied (R130, R174). -/
def State.sendDirective (s : State) (n : StationId) : State :=
  let l := stationLink n
  if s.txReady l = true ∧ (s.link l).answers = [] then
    let c := (s.station n).control
    match c.stateSlot, c.dressSlot with
    | some d, _ => (s.setControl n { c with stateSlot := none }).transmit l (.directive d.payload)
    | none, some ps => (s.setControl n { c with dressSlot := none }).transmit l (.directive (dressPayload ps))
    | none, none => s
  else s

/-- HALT, HOLD or RELEASE is asked: it replaces what waits in the state slot, and is sent at once if the
transmitter is sending nothing (R130). -/
def State.askState (s : State) (n : StationId) (d : StateDirective) : State :=
  (s.setControl n { (s.station n).control with stateSlot := some d }).sendDirective n

/-- DRESS is asked naming positions; naming none asks nothing (R129, R130). -/
def State.askDress (s : State) (n : StationId) (ps : List Pos) : State :=
  if ps = [] then s
  else (s.setControl n { (s.station n).control with dressSlot := some ps }).sendDirective n

/-! ### Halts (R125) -/

/-- A halt request: the station becomes or stays HALTED with this cause and halt tool, its line is driven,
HALT is asked and a HALT notice queued. An OFFLINE station is not touched. -/
def State.halt (s : State) (n : StationId) (cause : HaltCause) (tool : Option ToolId) : State :=
  if s.stationState n = .offline then s
  else
    let c := (s.station n).control
    ((s.setControl n { c with state := .halted, cause := some cause, haltTool := tool, haltLine := true }).askState
      n (.halt cause)).queueNotice n .halt

/-! ### Taking a record and taking a request -/

/-- The part does a step only with power; without it nothing happens. A store write that can begin does so
once the step's changes are made (DEDUCED, notes/assumptions/9.md). -/
def State.whenPowered (s : State) (f : State → State) : Result :=
  .next (if s.powered = true then (f s).beginWrite else s)

/-- The intake of a running station takes its oldest record if that is one `pick` accepts; the record
leaves the queue and is processed by `f` (R68). Where the oldest record is another, or none, or the
station is OFFLINE, the record is not taken and nothing changes (DESIGN CHOICE, notes/assumptions/1.md).
-/
def State.takeRecord (s : State) (n : StationId) {α : Type} (pick : StationRecord → Option α)
    (f : α → Time → State → State) : Result :=
  s.whenPowered fun s =>
    let i := (s.station n).intake
    match i.queue with
    | [] => s
    | q :: rest =>
      match pick q.record with
      | none => s
      | some a =>
        if s.stationState n = .offline then s
        else f a q.stamp (s.setIntake n { i with queue := rest })

/-- What a request answers: a reply code with the data that follow DONE (R177). -/
structure Answered where
  code : ReplyCode
  data : List Byte
  deriving DecidableEq, Repr

/-- DONE with no data. -/
def Answered.ok : Answered := ⟨.done, []⟩

/-- A refusal carries no data. -/
def Answered.refuse (c : ReplyCode) : Answered := ⟨c, []⟩

/-- Whether the cell request intake can take a request: the reply slot is empty (R176) and no change of
the cell link's rate is due (DEDUCED, notes/assumptions/5.md). -/
def State.canTake (s : State) : Bool := s.cell.reply.isNone && !s.rateDue 0

/-- The cell request intake takes its oldest frame if `pick` accepts its kind; the frame leaves the
intake, `f` does what the request does and gives the payloads of its reply, and these fill the reply slot
(R176). Where it cannot be taken nothing changes (DESIGN CHOICE, notes/assumptions/1.md). -/
def State.takeFrame (s : State) (pick : Byte → Bool) (f : Payload → State → State × List Payload) : Result :=
  s.whenPowered fun s =>
    match s.cell.intake with
    | [] => s
    | p :: rest =>
      if s.canTake = true ∧ pick (p.headD 0) = true then
        let out := f p { s with cell := { s.cell with intake := rest } }
        { out.1 with cell := { out.1.cell with reply := some out.2 } }
      else s

/-- A request of one kind answered by one frame: `f` is the request's own rule. -/
def State.takeRequest (s : State) (kind : Byte) (f : Payload → State → State × Answered) : Result :=
  s.takeFrame (fun k => k == kind) fun p s =>
    let out := f p s
    (out.1, [replyPayload kind out.2.code out.2.data])

/-- A request whose checks fail changes nothing (R19, R51, R108, R132, R154). -/
def State.refuse (s : State) (c : ReplyCode) : State × Answered := (s, .refuse c)

end Sys2Proof.Machine
end

