-- ==== Sys2Proof/Machine/Pool.lean ====
section
/-!
DEFINITION. The pool arbiter (chapter 6): which tool qualifies for a role, the choice of a spare, the
waiting queues, and the offer of each tool that enters the store (R14, R115 to R120).
-/

namespace Sys2Proof.Machine

/-- A tool qualifies for a role (R115). -/
def State.qualifies (s : State) (t : ToolId) (r : RoleId) : Bool :=
  let x := s.tool t
  let role := (s.role r).record
  x.kind == some (posKind r.pos) && x.pool.isSome && x.pool == role.pool && x.state == .stored
    && !x.flags.pinned && decide (role.takeoverMin ≤ x.remaining)

/-- Of two tools, the one a choice prefers: the least remaining life, then the lowest number, which is the
first argument's where the lives are equal (R116). -/
def State.preferred (s : State) (best : Option ToolId) (t : ToolId) : Option ToolId :=
  match best with
  | none => some t
  | some b => if (s.tool t).remaining < (s.tool b).remaining then some t else some b

/-- The tool a choice for the role takes, read from the spare set as it stands (R116, R117). -/
def State.bestSpare (s : State) (r : RoleId) : Option ToolId :=
  (toolIds.filter fun t => s.qualifies t r).foldl s.preferred none

/-- Reservation of a tool for a role (R10, R107). -/
def State.reserve (s : State) (t : ToolId) (r : RoleId) : State :=
  (s.putTool t ((s.tool t).reservedFor r)).setRoleState r .reserved

/-- A role leaves the waiting queue of its pool (R107, R118). -/
def State.dequeue (s : State) (r : RoleId) : State :=
  match (s.role r).record.pool with
  | none => s
  | some p => s.setPool p ((s.pool p).filter fun x => x != r)

/-- A role joins the end of its pool's waiting queue and becomes WAITING (R116, R118). -/
def State.enqueue (s : State) (r : RoleId) : State :=
  match (s.role r).record.pool with
  | none => s.setRoleState r .waiting
  | some p => (s.setPool p (s.pool p ++ [r])).setRoleState r .waiting

/-- A waiting choice (R116): the chosen tool, or none and the role waits. -/
def State.waitingChoice (s : State) (r : RoleId) : State × Option ToolId :=
  match s.bestSpare r with
  | some t => (s.reserve t r, some t)
  | none => (s.enqueue r, none)

/-- A ride-along choice (R117): the chosen tool, or none and nothing changes. -/
def State.rideAlongChoice (s : State) (r : RoleId) : State × Option ToolId :=
  match s.bestSpare r with
  | some t => (s.reserve t r, some t)
  | none => (s, none)

/-- The order of a station with its entries changed by `f`. -/
def State.mapEntries (s : State) (n : StationId) (f : List Entry → List Entry) : State :=
  let w := (s.station n).swap
  s.setSwap n { w with order := w.order.map fun o => { o with entries := f o.entries } }

/-- A SWAP_ORDER notice is queued where the station's order is ORDERED, and none in DEFERRED (R152,
R153). -/
def State.noticeIfOrdered (s : State) (n : StationId) : State :=
  match (s.station n).swap.order with
  | some o => if o.state = .ordered then s.queueNotice n .swapOrder else s
  | none => s

/-- An entry of a WAITING role takes a served tool (R153). -/
def Entry.served (t : ToolId) (e : Entry) : Entry := { e with incoming := some t, state := .reserved }

/-- Entries with the one at a position changed by `f`. -/
def entriesAt (p : Pos) (f : Entry → Entry) (es : List Entry) : List Entry :=
  es.map fun e => if e.pos = p then f e else e

/-- A serving (R119, R153): the role leaves the queue, the tool becomes RESERVED for it, its entry takes
the tool. -/
def State.serve (s : State) (p : PoolId) (t : ToolId) (r : RoleId) : State :=
  (((s.setPool p ((s.pool p).filter fun x => x != r)).reserve t r).mapEntries r.station
    (entriesAt r.pos (Entry.served t))).noticeIfOrdered r.station

/-- A tool that has entered STORED is handed to its pool (R14): unless PINNED it is offered to the waiting
queue, oldest first, and goes to the first role it qualifies for (R119). -/
def State.offer (s : State) (t : ToolId) : State :=
  match (s.tool t).pool with
  | none => s
  | some p =>
    if (s.tool t).flags.pinned = true then s
    else match (s.pool p).find? fun r => s.qualifies t r with
      | none => s
      | some r => s.serve p t r

/-- A return (R10): the reserved tool enters the store and is handed to its pool. -/
def State.returnTool (s : State) (t : ToolId) : State :=
  (s.putTool t (s.tool t).toStore).offer t

end Sys2Proof.Machine
end

