-- ==== Sys2Proof/Machine/Swap.lean ====
section
/-!
DEFINITION. Swap control and the role table's part in it (chapters 6 and 8): needs and where they are
placed (R106, R143), the gather window (R145 to R148), the forming of an order (R149 to R151), the open
order (R152, R157), its withdrawal (R162, R164), and adoption (R12, R165).
-/

namespace Sys2Proof.Machine

/-- The reason of an entry, from the role's current tool (R142). -/
def reasonOf (t : ToolRecord) : Reason :=
  match t.state with
  | .broken => .broken
  | .worn => if t.flags.undersize = true then .undersize else .worn
  | _ => .rideAlong

/-- The role state that a role's current tool alone gives it (R105, R107). -/
def settledState (s : State) (r : RoleId) : RoleState :=
  let x := (s.role r).record
  if x.defined = false then .undefined
  else match x.current with
    | none => .empty
    | some t =>
      match (s.tool t).state with
      | .worn => .needy
      | .broken => .needy
      | _ => .running

/-! ### Orders -/

/-- Whether a RUNNING role is a ride-along role of an order that forms now (R149 step 3). -/
def State.ridesAlong (s : State) (r : RoleId) : Bool :=
  let set := (s.station r.station).control.settings
  let limit := match posKind r.pos with
    | .wheel => set.rideAlongDresses
    | .dresser => set.rideAlongWu
  match (s.role r).record.current with
  | none => false
  | some t => (s.role r).state == .running && limit != 0 && decide ((s.tool t).remaining ≤ limit)

/-- The positions that get an entry, in entry order: the listed needs, the other NEEDY roles, the
ride-along roles (R149). -/
def State.candidates (s : State) (n : StationId) (listed : List Pos) : List Pos :=
  listed ++ (positions.filter fun p => (s.role ⟨n, p⟩).state == .needy && !listed.contains p)
    ++ positions.filter fun p => s.ridesAlong ⟨n, p⟩

/-- One entry is made and asks its pool for a spare (R150); a ride-along entry that gets none is dropped. -/
def State.makeEntry (s : State) (n : StationId) (p : Pos) : State × List Entry :=
  match (s.role ⟨n, p⟩).record.current with
  | none => (s, [])
  | some t =>
    let reason := reasonOf (s.tool t)
    if reason = .rideAlong then
      match s.rideAlongChoice ⟨n, p⟩ with
      | (s', some i) => (s', [⟨p, t, some i, reason, .reserved⟩])
      | (s', none) => (s', [])
    else
      match s.waitingChoice ⟨n, p⟩ with
      | (s', some i) => (s', [⟨p, t, some i, reason, .reserved⟩])
      | (s', none) => (s', [⟨p, t, none, reason, .waiting⟩])

/-- The entries of the candidates, each choice made on the pools as the one before left them (R150). -/
def State.makeEntries (s : State) (n : StationId) (ps : List Pos) : State × List Entry :=
  ps.foldl (fun (acc : State × List Entry) p =>
    let out := acc.1.makeEntry n p
    (out.1, acc.2 ++ out.2)) (s, [])

/-- The station moves when an order forms: READY to HELD and IN_PART to STOPPING, each with HOLD (R124). -/
def State.holdForOrder (s : State) (n : StationId) : State :=
  match s.stationState n with
  | .ready => (s.setStationState n .held).askState n .hold
  | .inPart => (s.setStationState n .stopping).askState n .hold
  | _ => s

/-- The station moves when its order completes: HELD to READY and STOPPING to IN_PART, each with RELEASE
(R124, R157). -/
def State.releaseFromOrder (s : State) (n : StationId) : State :=
  match s.stationState n with
  | .held => (s.setStationState n .ready).askState n .release
  | .stopping => (s.setStationState n .inPart).askState n .release
  | _ => s

/-- An order forms at a station with these listed needs (R149 to R151). -/
def State.formOrder (s : State) (n : StationId) (listed : List Pos) : State :=
  let out := s.makeEntries n (s.candidates n listed)
  let s' := out.1
  let order : Order :=
    { state := .ordered, entries := out.2,
      lapse := (s'.station n).control.settings.orderTimeoutS * 1000, opened := s'.timeBase }
  ((s'.setSwap n { (s'.station n).swap with order := some order }).holdForOrder n).queueNotice n .swapOrder

/-- An open gather window closes and the order forms (R147). -/
def State.closeWindow (s : State) (n : StationId) : State :=
  match (s.station n).swap.window with
  | none => s
  | some w => (s.setSwap n { (s.station n).swap with window := none }).formOrder n w.needs

/-- A gather window opens with its first need (R145). -/
def State.openWindow (s : State) (n : StationId) (p : Pos) : State :=
  let set := (s.station n).control.settings
  s.setSwap n { (s.station n).swap with
    window := some { needs := [p], close := Time.after s.timeBase set.gatherMs,
                     cap := Time.after s.timeBase set.gatherMaxMs } }

/-- A need joins an open window (R146). -/
def State.joinWindow (s : State) (n : StationId) (w : Window) (p : Pos) : State :=
  if p ∈ w.needs then s
  else
    let ms := (s.station n).control.settings.gatherMs
    let close := if ms ≤ msLeft s.timeBase w.cap then Time.after s.timeBase ms else w.cap
    s.setSwap n { (s.station n).swap with
      window := some { w with needs := w.needs ++ [p], close := close } }

/-- The reason of a RESERVED or WAITING entry is taken anew from its role's current tool (R142). -/
def State.refreshReason (s : State) (n : StationId) (p : Pos) : State :=
  match (s.role ⟨n, p⟩).record.current with
  | none => s
  | some t =>
    s.mapEntries n (entriesAt p fun e =>
      if e.state = .done then e else { e with reason := reasonOf (s.tool t) })

/-- A need or a reason change reaches a station with an open order (R152). -/
def State.joinOrder (s : State) (n : StationId) (o : Order) (p : Pos) : State :=
  match o.entries.find? fun e => e.pos == p with
  | none =>
    let out := s.makeEntry n p
    (out.1.mapEntries n fun es => es ++ out.2).noticeIfOrdered n
  | some e =>
    if e.state = .done then s
    else (s.refreshReason n p).noticeIfOrdered n

/-- A need, or a new reason, of the role at position `p` is placed (R143); `trip` says that it comes from a
first trip. -/
def State.placeNeed (s : State) (n : StationId) (p : Pos) (trip : Bool) : State :=
  if s.stationState n = .offline then s
  else
    match (s.station n).swap.order with
    | some o => s.joinOrder n o p
    | none =>
      match (s.station n).swap.window with
      | some w =>
        let s' := s.joinWindow n w p
        if trip = true then s'.closeWindow n else s'
      | none =>
        if trip = true ∨ (s.station n).control.settings.gatherMs = 0 then s.formOrder n []
        else s.openWindow n p

/-- The role table takes a change of a role's current tool into WORN or BROKEN (R106). -/
def State.raiseNeed (s : State) (r : RoleId) (trip : Bool) : State :=
  match (s.role r).state with
  | .running => (s.setRoleState r .needy).placeNeed r.station r.pos trip
  | .needy => s.placeNeed r.station r.pos trip
  | .waiting => s.placeNeed r.station r.pos trip
  | .reserved => s.placeNeed r.station r.pos trip
  | .staged => if trip = true then s.closeWindow r.station else s
  | .undefined => s
  | .empty => s

/-- The tool's record takes new content in which it may have become WORN; an ACTIVE tool that did hands on
its role's need (R13, R45). -/
def State.putWorn (s : State) (t : ToolId) (x : ToolRecord) : State :=
  let old := s.tool t
  let s' := s.putTool t x
  if old.state = .active ∧ x.state = .worn then
    match x.link with
    | some ⟨r, .current⟩ => s'.raiseNeed r false
    | _ => s'
  else s'

/-- LIFE_WARN is set when the warning condition is first met, and a WARNING is queued for a current tool's
station (R17). -/
def State.warnTool (s : State) (t : ToolId) : State :=
  let x := s.tool t
  if x.warns = true ∧ x.flags.lifeWarn = false then
    let s' := s.putTool t { x with flags := { x.flags with lifeWarn := true } }
    match x.link with
    | some ⟨r, .current⟩ => s'.queueNotice r.station .warning
    | _ => s'
  else s

/-- LIFE_WARN at a life evaluation: cleared where the condition is not met (R17). -/
def State.evaluateWarn (s : State) (t : ToolId) : State :=
  let x := s.tool t
  if x.warns = true then s.warnTool t
  else s.putTool t { x with flags := { x.flags with lifeWarn := false } }

/-- A life evaluation (R16). -/
def State.evaluateLife (s : State) (t : ToolId) : State :=
  let s1 := s.putTool t (s.tool t).finalTested.dressDueEvaluated
  let s2 := s1.evaluateWarn t
  s2.putWorn t (s2.tool t).wearTested

/-! ### The end of an order -/

/-- The order completes if it holds no entry that is not DONE (R157). -/
def State.completeIfDone (s : State) (n : StationId) : State :=
  match (s.station n).swap.order with
  | none => s
  | some o =>
    if o.entries.all (fun e => e.state == .done) = true then
      ((s.setSwap n { (s.station n).swap with order := none }).releaseFromOrder n).queueNotice n .swapOrder
    else s

/-- An entry's role leaves its pool's waiting queue, if it is WAITING (R162 step 1). -/
def State.unqueueEntry (s : State) (n : StationId) (e : Entry) : State :=
  if e.state = .waiting then s.dequeue ⟨n, e.pos⟩ else s

/-- A RESERVED entry's incoming tool returns to the store and is offered (R162 step 2). -/
def State.returnEntry (s : State) (e : Entry) : State :=
  if e.state = .reserved then
    match e.incoming with
    | some t => s.returnTool t
    | none => s
  else s

/-- A RESERVED or WAITING entry's role is settled by its current tool (R162 step 3). -/
def State.settleEntry (s : State) (n : StationId) (e : Entry) : State :=
  if e.state = .done then s else s.setRoleState ⟨n, e.pos⟩ (settledState s ⟨n, e.pos⟩)

/-- Steps 1 to 5 of R162: an order is withdrawn. -/
def State.withdrawOrder (s : State) (n : StationId) (o : Order) : State :=
  let s1 := o.entries.foldl (fun s e => s.unqueueEntry n e) s
  let s2 := o.entries.foldl (fun s e => s.returnEntry e) s1
  let s3 := o.entries.foldl (fun s e => s.settleEntry n e) s2
  s3.setSwap n { (s3.station n).swap with order := none }

/-- One entry is withdrawn because an accepted release returned its role's tool to ACTIVE (R98 step 3); the
completion test follows (R157). -/
def State.withdrawEntry (s : State) (n : StationId) (e : Entry) : State :=
  let s1 := s.mapEntries n fun es => es.filter fun x => x.pos != e.pos
  let s2 := (s1.unqueueEntry n e).returnEntry e
  s2.completeIfDone n

/-- A role leaves the need list of an open window; a window left empty is cancelled (R148). -/
def State.leaveWindow (s : State) (n : StationId) (p : Pos) : State :=
  let w := (s.station n).swap
  match w.window with
  | none => s
  | some x =>
    let needs := x.needs.filter fun q => q != p
    s.setSwap n { w with window := if needs = [] then none else some { x with needs := needs } }

/-! ### Adoption -/

/-- A role adopts its staged tool (R12, R165): the outgoing tool is retired, the staged tool enters service
with its history cleared. The role becomes RUNNING, or NEEDY if the tool enters WORN. -/
def State.adoptRole (s : State) (r : RoleId) : State :=
  let x := (s.role r).record
  match x.staged with
  | none => s
  | some t =>
    let s1 := match x.current with
      | none => s
      | some old => s.putTool old (s.tool old).toRetired
    let s2 := (s1.putTool t ((s1.tool t).mountedAt r)).setHistory t []
    let s3 := s2.putRole r { x with current := some t, staged := none }
    s3.setRoleState r (settledState s3 r)

/-- The positions of a station whose roles have a staged tool. -/
def State.stagedPositions (s : State) (n : StationId) : List Pos :=
  positions.filter fun p => (s.role ⟨n, p⟩).record.staged.isSome

/-- Every STAGED role of a station adopts, in ascending position (R165). -/
def State.adoptStation (s : State) (n : StationId) : State :=
  positions.foldl (fun s p => s.adoptRole ⟨n, p⟩) s

/-- The needs that an adoption raised at a starting part are placed, in ascending position (R144): those
of the roles in `ps` that it left NEEDY (DEDUCED, notes/assumptions/14.md). -/
def State.placeAdopted (s : State) (n : StationId) (ps : List Pos) : State :=
  ps.foldl (fun s p => if (s.role ⟨n, p⟩).state = .needy then s.placeNeed n p false else s) s

end Sys2Proof.Machine
end

