-- ==== Sys2Proof/Machine/Plans.lean ====
section
/-!
DEFINITION. The plan store's rules (chapter 3): which positions plans name (R47), the candidate for the
next part (R58), the adoption of a staged plan and the way back from a ONE_PART plan (R59), the walk of a
cut (R60), and the settling of a staged plan that Plan Steps wrote (R54).
-/

namespace Sys2Proof.Machine

/-- A staged plan as a plan, if every step is written. -/
def StagedPlan.toPlan (p : StagedPlan) : Option Plan :=
  (p.steps.mapM id).map fun steps => { revision := p.revision, mode := p.mode, steps := steps }

/-- The number of steps marked written. -/
def StagedPlan.written (p : StagedPlan) : Nat := (p.steps.filter fun x => x.isSome).length

/-- A plan names a position (R47). -/
def Plan.names (p : Plan) (pos : Pos) : Bool := p.steps.any fun x => x.pos == pos

/-- A staged plan names the positions of the steps already written (R47). -/
def StagedPlan.names (p : StagedPlan) (pos : Pos) : Bool :=
  p.steps.any fun x => (x.map fun y => y.pos) == some pos

/-- A plan in any of the station's three slots names the position (R47). -/
def PlanSlots.names (p : PlanSlots) (pos : Pos) : Bool :=
  (p.active.map fun x => x.names pos).getD false || (p.staged.map fun x => x.names pos).getD false
    || (p.returned.map fun x => x.names pos).getD false

/-- The plan for the next part (R58 step 1), with whether it is the staged plan: the staged plan if it is
COMPLETE, else the active plan. -/
def PlanSlots.candidate (p : PlanSlots) : Option (Plan × Bool) :=
  let active := p.active.map fun a => (a, false)
  match p.staged with
  | none => active
  | some st => if st.fill = .complete then st.toPlan.map fun a => (a, true) else active

/-- Every position the plan names has a role with a current tool (R58 step 4). -/
def State.planTooled (s : State) (n : StationId) (p : Plan) : Bool :=
  p.steps.all fun x => (s.role ⟨n, x.pos⟩).record.current.isSome

/-- The staged plan `p` is adopted (R59); a STANDING adoption marks the stored plan record (R50). -/
def State.adoptPlan (s : State) (n : StationId) (p : Plan) : State :=
  let slots := (s.station n).plans
  match p.mode with
  | .standing => (s.setPlans n { slots with active := some p, staged := none }).mark (.plan n)
  | .onePart => s.setPlans n { active := some p, staged := none, returned := slots.active }

/-- The return plan comes back when the part run on a ONE_PART plan is closed (R59). -/
def PlanSlots.closed (p : PlanSlots) : PlanSlots :=
  match p.active with
  | none => p
  | some a => if a.mode = .onePart then { p with active := p.returned, returned := none } else p

/-- The step a cut of step number `k` is accepted for, from pointer `p` (R60): none is a sequence fault. -/
def walkStep (plan : Option Plan) (p k : Nat) : Option PlanStep :=
  match plan with
  | none => none
  | some a => if p < k ∧ k ≤ a.steps.length then a.steps[k - 1]? else none

/-- Every position that a plan names is a defined role of the station (R54). -/
def State.planDefined (s : State) (n : StationId) (p : Plan) : Bool :=
  p.steps.all fun x => (s.role ⟨n, x.pos⟩).record.defined

/-- Entries written into a staged plan from index `first` on (R53). -/
def writeSteps (old : List (Option PlanStep)) (first : Nat) (new : List PlanStep) : List (Option PlanStep) :=
  old.take (first - 1) ++ new.map some ++ old.drop (first - 1 + new.length)

end Sys2Proof.Machine
end

