-- ==== Sys2Proof/Machine/Layouts.lean ====
section
/-!
DEFINITION. What the part reports (R25, R26, R63, R113, R122, R140, R160, R183, R185): the data of the read
replies and the payloads of the notices, each taken from the state as it stands, in the sizes and with the
absences of R178 and the byte layouts of chapter 9. Where those leave a field's size, place or absence to
be inferred the reading is listed in notes/assumptions/13.md (DEDUCED).
-/

namespace Sys2Proof.Machine

/-- A time base value, 6 bytes. -/
def timeBytes (t : Time) : List Byte := le 6 t.toNat

/-- An optional tool number, 0 when absent. -/
def toolByte (t : Option ToolId) : List Byte := leOrZero 1 (t.map num)

/-- A role link as station, position and relation; all 0 when absent (tool summary). -/
def linkBytes (l : Option RoleLink) : List Byte :=
  match l with
  | none => [0, 0, 0]
  | some x => le 1 (num x.role.station) ++ le 1 x.role.pos.val ++ le 1 x.relation.code

/-- A trip record, 24 bytes (byte layouts). -/
def tripBytes (t : TripRecord) : List Byte :=
  le 1 t.cause.code ++ le 1 (num t.role.station) ++ le 1 t.role.pos.val ++ leOrZero 1 t.step
    ++ leOrZero 1 t.journal ++ lePresent 4 t.tag ++ lePresent 2 t.peak ++ lePresent 4 t.q ++ timeBytes t.stamp

/-- A trip record or its absence: a presence byte and 24 bytes, 0 when absent (R178). -/
def optTripBytes (t : Option TripRecord) : List Byte :=
  match t with
  | none => List.replicate 25 0
  | some x => 1 :: tripBytes x

/-- The fields of both life groups, the wheel's first, those of the other kind 0 (R178). -/
def lifeBytes (l : Life) : List Byte :=
  match l with
  | .absent => List.replicate 26 0
  | .wheel w =>
    le 4 w.dNew ++ le 4 w.dMin ++ le 4 w.dNow ++ le 2 w.dressStep ++ le 2 w.dressLimit ++ le 2 w.warnDresses
      ++ List.replicate 8 0
  | .dresser d => List.replicate 18 0 ++ le 4 d.lifeBudget ++ le 4 d.warnWu

/-- The seven life accounts (R6). -/
def accountBytes (a : Accounts) : List Byte :=
  le 2 a.wd ++ le 4 a.wt ++ le 4 a.partsTotal ++ le 2 a.partsSinceDress ++ le 2 a.dressCount ++ le 4 a.avg
    ++ le 2 a.tripCount

/-- D_now of a wheel, 0 for every other record. -/
def ToolRecord.dNow (t : ToolRecord) : Nat :=
  match t.life with
  | .wheel w => w.dNow
  | _ => 0

/-- The flags a tool summary sends: those of an occupied record, and 0 for a VACANT one, PINNED or not
(R26). -/
def summaryFlags (x : ToolRecord) : Nat := if x.state = .vacant then 0 else flagBits x.flags

/-- A tool summary, 28 bytes (R26, byte layouts). -/
def summaryBytes (t : ToolId) (x : ToolRecord) : List Byte :=
  le 1 (num t) ++ le 1 x.state.code ++ le 1 (kindCode x.kind) ++ leOrZero 1 (x.pool.map num)
    ++ linkBytes x.link ++ le 2 (summaryFlags x) ++ le 4 x.remaining ++ le 3 x.projection
    ++ le 2 x.acc.wd ++ le 4 x.acc.wt ++ le 2 x.acc.tripCount ++ le 4 x.dNow

/-- The data of Tool Read (R25). -/
def toolReadData (t : ToolId) (x : ToolRecord) (h : List Verdict) : List Byte :=
  le 1 (num t) ++ le 1 x.state.code ++ le 1 (kindCode x.kind) ++ leOrZero 1 (x.pool.map num)
    ++ le 1 x.recond ++ textField x.label ++ linkBytes x.link ++ le 2 (flagBits x.flags)
    ++ lifeBytes x.life ++ accountBytes x.acc ++ le 4 x.remaining ++ le 3 x.projection
    ++ le 1 h.length ++ h.flatMap (fun v => le 1 v.code) ++ optTripBytes x.trip

/-- The tools that each frame of the Tool Table Read series carries (R179). -/
def tableFrames : List (Nat × List ToolId) :=
  [(0x14, toolIds.take 17), (0x24, (toolIds.drop 17).take 17), (0x34, (toolIds.drop 34).take 17),
   (0x44, toolIds.drop 51)]

/-- The frames of the Tool Table Read series (R179). -/
def tableReadFrames (s : State) : List Payload :=
  tableFrames.map fun f =>
    replyPayload 0x17 .done (le 1 f.1 ++ f.2.flatMap fun t => summaryBytes t (s.tool t))

/-- The data of Plan Read for one slot (R63): whether it holds a plan, its header, its fill state, and for
each step whether it is written and its fields; an empty slot reads 0 in every field. -/
def planReadData (p : Option StagedPlan) : List Byte :=
  match p with
  | none => List.replicate 6 0
  | some x =>
    1 :: (le 2 x.revision ++ le 1 x.mode.code ++ le 1 x.steps.length ++ le 1 x.fill.code
      ++ x.steps.flatMap fun st =>
        match st with
        | some y => 1 :: stepBytes y
        | none => List.replicate 12 0)

/-- A plan of the active or return slot as Plan Read reports it: COMPLETE, every step written (R63). -/
def Plan.asStaged (p : Plan) : StagedPlan :=
  { revision := p.revision, mode := p.mode, fill := .complete, steps := p.steps.map some }

/-- The incoming tool reserved for a role, from the role's order entry (R103, R113). -/
def State.incomingOf (s : State) (r : RoleId) : Option ToolId :=
  match (s.station r.station).swap.order with
  | none => none
  | some o =>
    match o.entries.find? fun e => e.pos == r.pos && e.state == .reserved with
    | some e => e.incoming
    | none => none

/-- A role's place in its pool's waiting queue, the oldest 1; absent for a role that is not WAITING (R113). -/
def State.queuePlace (s : State) (r : RoleId) : Option Nat :=
  match (s.role r).record.pool with
  | none => none
  | some p => if r ∈ s.pool p then some ((s.pool p).idxOf r + 1) else none

/-- The verdict settings of both kinds, the wheel's first, those of the other kind 0 (R178). -/
def settingBytes (k : Kind) (x : RoleRecord) : List Byte :=
  match k with
  | .wheel => le 1 x.strikeLimit ++ le 2 x.eLo ++ le 2 x.eHi ++ List.replicate 7 0
  | .dresser =>
    List.replicate 5 0 ++ le 2 x.dresserHi ++ le 2 x.dresserLo ++ le 1 x.strikeLimit ++ le 2 x.dressCost

/-- The data of Role Read (R113). The remaining life, which only a role with a current tool has, carries the presence
byte of R178. -/
def roleReadData (s : State) (r : RoleId) : List Byte :=
  let x := s.role r
  le 1 (num r.station) ++ le 1 r.pos.val ++ le 1 (kindCode (some (posKind r.pos))) ++ boolByte x.record.defined
    ++ leOrZero 1 (x.record.pool.map num) ++ le 4 x.record.takeoverMin ++ settingBytes (posKind r.pos) x.record
    ++ le 1 x.state.code ++ toolByte x.record.current
    ++ lePresent 4 (x.record.current.map fun t => (s.tool t).remaining)
    ++ toolByte x.record.staged ++ toolByte (s.incomingOf r) ++ leOrZero 1 (s.queuePlace r)

/-- A tool placed into a list that stands in choice order: by least remaining life, then lowest number
(R122); the list's tools have lower numbers. -/
def State.insertSpare (s : State) (t : ToolId) : List ToolId → List ToolId
  | [] => [t]
  | u :: us =>
    if (s.tool t).remaining < (s.tool u).remaining then t :: u :: us else u :: s.insertSpare t us

/-- The STORED tools of a pool with this PINNED flag, in choice order (R122). -/
def State.sparesOf (s : State) (p : PoolId) (pinned : Bool) : List ToolId :=
  (toolIds.filter fun t =>
    (s.tool t).state == .stored && (s.tool t).pool == some p && (s.tool t).flags.pinned == pinned).foldl
    (fun acc t => s.insertSpare t acc) []

/-- The data of Pool Read (R122): the pool, its spare set in choice order, unpinned tools first, and its
waiting queue, oldest first. -/
def poolReadData (s : State) (p : PoolId) : List Byte :=
  let spares := s.sparesOf p false ++ s.sparesOf p true
  le 1 (num p) ++ le 1 spares.length
    ++ spares.flatMap (fun t =>
        le 1 (num t) ++ le 1 (kindCode (s.tool t).kind) ++ boolByte (s.tool t).flags.pinned
          ++ le 4 (s.tool t).remaining)
    ++ le 1 (s.pool p).length
    ++ (s.pool p).flatMap (fun r =>
        le 1 (num r.station) ++ le 1 r.pos.val ++ le 1 (kindCode (some (posKind r.pos)))
          ++ le 4 (s.role r).record.takeoverMin)

/-- The station counters (R81), in the order of their table. -/
def counterBytes (c : Counters) : List Byte :=
  le 4 c.good ++ le 4 c.rework ++ le 4 c.scrap ++ le 4 c.abandoned ++ le 2 c.repeats ++ le 2 c.refused
    ++ le 1 c.skipped

/-- The six settings (R131), in the order of their table. -/
def settingsBytes (x : Settings) : List Byte :=
  le 2 x.gatherMs ++ le 4 x.gatherMaxMs ++ le 2 x.orderTimeoutS ++ le 2 x.rideAlongDresses
    ++ le 4 x.rideAlongWu ++ le 2 x.restartCharge

/-- A halt cause, or none. -/
def causeByte (c : Option HaltCause) : List Byte := leOrZero 1 (c.map HaltCause.code)

/-- The data of Station Read (R140). -/
def stationReadData (x : Station) : List Byte :=
  le 1 x.control.state.code ++ causeByte x.control.cause ++ toolByte x.control.haltTool
    ++ boolByte x.control.haltLine ++ lePresent 4 (x.intake.part.map fun p => p.tag)
    ++ le 1 x.intake.pointer ++ le 1 x.intake.counters.skipped ++ le 1 x.intake.queue.length
    ++ lePresent 1 (x.intake.lastNumber.map fun b => b.toNat)
    ++ counterBytes x.intake.counters ++ settingsBytes x.control.settings ++ boolByte x.swap.window.isSome
    ++ le 1 (orderCode (x.swap.order.map fun o => o.state))

/-- The part of an entry that Order Read and the SWAP_ORDER notice share, after its role or position. -/
def entryBytes (e : Entry) : List Byte :=
  le 1 (num e.outgoing) ++ toolByte e.incoming ++ le 1 e.reason.code ++ le 1 e.state.code

/-- An order's state, opening stamp and lapse remaining in the SWAP_ORDER notice: 11 bytes at the places its layout
gives them (chapter 9), all 0 with no order. -/
def orderHeadBytes (o : Option Order) : List Byte :=
  match o with
  | none => List.replicate 11 0
  | some x => le 1 (orderCode (some x.state)) ++ timeBytes x.opened ++ le 4 x.lapse

/-- The entries of an order, none where the station has no order. -/
def orderEntries (o : Option Order) : List Entry :=
  match o with
  | none => []
  | some x => x.entries

/-- The data of Order Read (R160). The opening stamp and the lapse remaining, which only an order has, carry the presence
byte of R178. DEDUCED, unsafe: that the flag of the window is the presence byte of its fields, and the station in each
role (notes/assumptions/13.md). -/
def orderReadData (s : State) (n : StationId) : List Byte :=
  let w := (s.station n).swap
  le 1 (orderCode (w.order.map fun o => o.state)) ++ lePresent 6 (w.order.map fun o => o.opened.toNat)
    ++ lePresent 4 (w.order.map fun o => o.lapse) ++ le 1 (orderEntries w.order).length
    ++ (orderEntries w.order).flatMap (fun e => le 1 (num n) ++ le 1 e.pos.val ++ entryBytes e)
    ++ match w.window with
      | none => List.replicate 8 0
      | some x =>
        1 :: (le 1 x.needs.length ++ x.needs.flatMap (fun p => le 1 (num n) ++ le 1 p.val)
          ++ le 2 (msLeft s.timeBase x.close) ++ le 4 (msLeft s.timeBase x.cap))

/-- The number of records in the pending-write set (R187). -/
def Store.pendingWrites (st : Store) : Nat := (st.marked.toList.filter fun b => b).length

/-- The data of Status (R185). -/
def statusData (s : State) : List Byte :=
  timeBytes s.timeBase ++ le 1 s.store.state.code ++ le 1 s.store.pendingWrites ++ le 1 s.notices.length
    ++ stationIds.flatMap fun n => le 1 (s.stationState n).code

/-! ### Notices (R183) -/

/-- The SWAP_ORDER notice of a station. -/
def swapOrderPayload (s : State) (n : StationId) : Payload :=
  let o := (s.station n).swap.order
  0x90 :: (le 1 (num n) ++ orderHeadBytes o ++ le 1 (orderEntries o).length
    ++ (orderEntries o).flatMap fun e => le 1 e.pos.val ++ entryBytes e)

/-- The trip record a HALT notice includes: that of the halt tool of a BREAKAGE halt. -/
def State.haltTrip (s : State) (n : StationId) : Option TripRecord :=
  let c := (s.station n).control
  if c.cause = some .breakage then c.haltTool.bind fun t => (s.tool t).trip else none

/-- The HALT notice of a station. -/
def haltPayload (s : State) (n : StationId) : Payload :=
  let c := (s.station n).control
  0x91 :: (le 1 (num n) ++ le 1 c.state.code ++ causeByte c.cause ++ toolByte c.haltTool
    ++ optTripBytes (s.haltTrip n))

/-- The positions of a station whose current tool has LIFE_WARN set, ascending, each with its tool. -/
def State.warned (s : State) (n : StationId) : List (Pos × ToolId) :=
  positions.filterMap fun p =>
    match (s.role ⟨n, p⟩).record.current with
    | some t => if (s.tool t).flags.lifeWarn = true then some (p, t) else none
    | none => none

/-- The WARNING notice of a station. -/
def warningPayload (s : State) (n : StationId) : Payload :=
  0x92 :: (le 1 (num n) ++ le 1 (s.warned n).length
    ++ (s.warned n).flatMap fun x =>
      le 1 x.1.val ++ le 1 (num x.2) ++ le 1 (kindCode (s.tool x.2).kind) ++ le 4 (s.tool x.2).remaining
        ++ le 3 (s.tool x.2).projection)

/-- A notice as it is assembled from live state (R182). -/
def noticePayload (s : State) (x : Notice) : Payload :=
  match x.kind with
  | .swapOrder => swapOrderPayload s x.station
  | .halt => haltPayload s x.station
  | .warning => warningPayload s x.station

end Sys2Proof.Machine
end

