-- ==== Sys2Proof/Machine/Links.lean ====
section
/-!
DEFINITION. The links (chapter 9): the framers (R167 to R171), arrivals (R66, R67, R175), what the
transmitters send (R173, R174, R180, R182), link rates (R184), and the commands LINK_BYTE, GAP,
STATION_RECORD_ARRIVAL, CELL_FRAME_ARRIVAL, ANSWER_BYTE_SEND, DIRECTIVE_SEND, REPLY_SEND, NOTICE_SEND,
LINK_RATE_CHANGE, LINK_RATE, STATUS and UNKNOWN_KIND.
-/

namespace Sys2Proof.Machine

/-! ### Arrivals -/

/-- A record is a repeat (R67): it is dropped and counted. -/
def State.countRepeat (s : State) (n : StationId) : State :=
  let c := (s.station n).intake.counters
  s.setCounters n { c with repeats := satAdd Config.max16 c.repeats 1 }

/-- A record joins a station's intake queue with its stamp and becomes the last queued (R66 step 5). -/
def State.queueRecord (s : State) (n : StationId) (number : Byte) (r : StationRecord) : State :=
  let i := (s.station n).intake
  s.setIntake n { i with queue := i.queue ++ [⟨number, r, s.timeBase⟩], lastNumber := some number }

/-- The arrival checks of a station link (R66), with the answer they ask. -/
def State.stationArrival (s : State) (n : StationId) (p : Payload) : State :=
  let l := stationLink n
  let i := (s.station n).intake
  if s.stationState n = .offline then s.askAnswer l .idle
  else match parseRecord p with
    | none => (s.countRefused n).askAnswer l .taken
    | some (number, r) =>
      if i.lastNumber = some number then (s.countRepeat n).askAnswer l .taken
      else if Config.intakeCapacity ≤ i.queue.length then s.askAnswer l .full
      else (s.queueRecord n number r).askAnswer l .taken

/-- A frame is offered to the cell request intake (R175). -/
def State.cellArrival (s : State) (p : Payload) : State :=
  if Config.cellCapacity ≤ s.cell.intake.length then s.askAnswer 0 .full
  else ({ s with cell := { s.cell with intake := s.cell.intake ++ [p] } }).askAnswer 0 .taken

/-- The station a station link belongs to; the cell link has none. -/
def linkStation (l : LinkId) : Option StationId := if h : l = 0 then none else some (l.pred h)

/-- A frame that has arrived is handed to its link's owner (R170). -/
def State.arrive (s : State) (l : LinkId) (p : Payload) : State :=
  match linkStation l with
  | none => s.cellArrival p
  | some n => s.stationArrival n p

/-! ### Framers -/

def State.setFramer (s : State) (l : LinkId) (f : Framer) : State :=
  s.setLink l { s.link l with framer := f }

/-- The second length byte decides the next phase (R169). -/
def State.lengthDone (s : State) (l : LinkId) (len : Nat) (crc : BitVec 16) : State :=
  if len = 0 then (s.setFramer l (.discard 2 s.timeBase)).askAnswer l .zeroLength
  else if len ≤ Config.maxPayload then s.setFramer l (.payload [] len crc s.timeBase)
  else (s.setFramer l (.discard (len + 2) s.timeBase)).askAnswer l .tooLong

/-- The second check byte decides the frame (R170). -/
def State.checkDone (s : State) (l : LinkId) (got : Payload) (hi lo : Byte) (crc : BitVec 16) : State :=
  let s' := s.setFramer l (.hunt false)
  if [hi, lo] = checkBytes crc then s'.arrive l got else s'.askAnswer l .badCheck

/-- A byte is treated by the framer's phase (R168 to R170). -/
def State.receive (s : State) (l : LinkId) (b : Byte) : State :=
  let now := s.timeBase
  match (s.link l).framer with
  | .hunt run =>
    if b = leadByte then s.setFramer l (.length none crcStart now)
    else if run = true then s
    else (s.setFramer l (.hunt true)).askAnswer l .badLead
  | .length none crc _ => s.setFramer l (.length (some b) (crcByte crc b) now)
  | .length (some lo) crc _ => s.lengthDone l (lo.toNat + 256 * b.toNat) (crcByte crc b)
  | .payload got due crc _ =>
    if due ≤ 1 then s.setFramer l (.check (got ++ [b]) none (crcByte crc b) now)
    else s.setFramer l (.payload (got ++ [b]) (due - 1) (crcByte crc b) now)
  | .check got none crc _ => s.setFramer l (.check got (some b) crc now)
  | .check got (some hi) crc _ => s.checkDone l got hi b crc
  | .discard skip _ =>
    if skip ≤ 1 then s.setFramer l (.hunt false) else s.setFramer l (.discard (skip - 1) now)

/-- LINK_BYTE (R168 to R170): a byte is received on a link. The second check byte of a sound frame hands the
frame to its owner in the same step. -/
def execLinkByte (l : LinkId) (b : Byte) (s : State) : Result := s.whenPowered fun s => s.receive l b

/-- The time of the last byte from which a framer's gap timer runs; no timer runs in HUNT (R171). -/
def Framer.lastByte : Framer → Option Time
  | .hunt _ => none
  | .length _ _ last => some last
  | .payload _ _ _ last => some last
  | .check _ _ _ last => some last
  | .discard _ last => some last

/-- The gap timer of a link has expired: 25 ms have passed since its last byte (R171). -/
def State.gapDue (s : State) (l : LinkId) : Bool :=
  match (s.link l).framer.lastByte with
  | none => false
  | some last => decide (Config.gapMs ≤ (s.timeBase - last).toNat)

/-- The expiry of the gap timer (R171). -/
def State.gapExpiry (s : State) (l : LinkId) : State :=
  match (s.link l).framer with
  | .hunt _ => s
  | .discard _ _ => s.setFramer l (.hunt false)
  | _ => (s.setFramer l (.hunt false)).askAnswer l .gap

/-- GAP (R171). -/
def execGap (l : LinkId) (s : State) : Result :=
  s.whenPowered fun s => if s.gapDue l = true then s.gapExpiry l else s

/-- A whole sound frame with a payload has been received on a link: its last byte leaves the framer in
HUNT (R170), and the payload goes to its owner. A payload that no frame carries faults (R166; DESIGN
CHOICE, notes/assumptions/3.md). -/
def State.frameArrival (s : State) (l : LinkId) (p : Payload) : Result :=
  if 1 ≤ p.length ∧ p.length ≤ Config.maxPayload then
    s.whenPowered fun s => (s.setFramer l (.hunt false)).arrive l p
  else .fault .noSuchFrame

/-- STATION_RECORD_ARRIVAL (R66). -/
def execStationRecordArrival (n : StationId) (p : Payload) (s : State) : Result :=
  s.frameArrival (stationLink n) p

/-- CELL_FRAME_ARRIVAL (R175). -/
def execCellFrameArrival (p : Payload) (s : State) : Result := s.frameArrival 0 p

/-! ### Transmitters -/

/-- ANSWER_BYTE_SEND (R173). -/
def execAnswerByteSend (l : LinkId) (s : State) : Result := s.whenPowered fun s => s.sendAnswer l

/-- DIRECTIVE_SEND (R130, R174). -/
def execDirectiveSend (n : StationId) (s : State) : Result := s.whenPowered fun s => s.sendDirective n

/-- The cell transmitter may begin a frame: it is free and no answer byte waits (R173, R180). -/
def State.cellFrameReady (s : State) : Bool := s.txReady 0 && (s.link 0).answers.isEmpty

/-- The next frame of the reply in the reply slot is begun (R180). -/
def State.sendReply (s : State) : State :=
  match s.cell.reply with
  | some (p :: rest) =>
    if s.cellFrameReady = true then
      ({ s with cell := { s.cell with reply := some rest } }).transmit 0 (.reply p)
    else s
  | _ => s

/-- REPLY_SEND (R180). -/
def execReplySend (s : State) : Result := s.whenPowered State.sendReply

/-- Whether a frame of a reply waits unsent (R180). -/
def Cell.replyWaits (c : Cell) : Bool :=
  match c.reply with
  | some (_ :: _) => true
  | _ => false

/-- The oldest notice leaves the queue, is assembled from live state and begun (R182). -/
def State.sendNotice (s : State) : State :=
  match s.notices with
  | [] => s
  | x :: rest =>
    if s.cellFrameReady = true ∧ s.cell.replyWaits = false then
      ({ s with notices := rest }).transmit 0 (.notice (noticePayload s x))
    else s

/-- NOTICE_SEND (R182). -/
def execNoticeSend (s : State) : Result := s.whenPowered State.sendNotice

/-! ### Rates -/

/-- A link takes a new rate: nothing waits any more, and the framer returns to HUNT (R167, R184). -/
def State.applyRate (s : State) (l : LinkId) (r : Rate) : State :=
  s.setLink l { s.link l with rate := r, pendingRate := none, framer := .hunt false }

/-- A pending rate change whose transmission has ended is made (R184). -/
def State.changeRate (s : State) (l : LinkId) : State :=
  match (s.link l).pendingRate with
  | none => s
  | some r => if s.rateDue l = true then s.applyRate l r else s

/-- LINK_RATE_CHANGE (R184). -/
def execLinkRateChange (l : LinkId) (s : State) : Result := s.whenPowered fun s => s.changeRate l

/-- A link's present rate; on a station link a waiting change's rate is the present one (R184). -/
def Link.presentRate (x : Link) : Rate := x.pendingRate.getD x.rate

/-- What an accepted Link Rate request does (R184): nothing where the rate is the link's present one; else the
change is made at once on an idle station link, and waits on any other. -/
def State.requestRate (s : State) (l : LinkId) (r : Rate) : State :=
  let x := s.link l
  if x.presentRate = r then s
  else if l ≠ 0 ∧ x.sending = none then s.applyRate l r
  else s.setLink l { x with pendingRate := some r }

/-- Link Rate (R184). The reply to a request for the present rate carries the link and rate too (DEDUCED,
notes/assumptions/13.md). -/
def State.linkRate (s : State) (p : Payload) : State × Answered :=
  if p.length ≠ 3 then s.refuse .badLength
  else match linkOf (field p 1 1), rateOfCode (field p 2 1) with
    | some l, some r => (s.requestRate l r, ⟨.done, le 1 l.val ++ le 1 r.code⟩)
    | _, _ => s.refuse .badValue

/-- LINK_RATE (R184). -/
def execLinkRate (s : State) : Result := s.takeRequest 0x60 fun p s => s.linkRate p

/-- STATUS (R185). -/
def execStatus (s : State) : Result :=
  s.takeRequest 0x61 fun p s => if p.length ≠ 1 then s.refuse .badLength else (s, ⟨.done, statusData s⟩)

/-- UNKNOWN_KIND (R176): the kind byte received is echoed (R177). -/
def execUnknownKind (s : State) : Result :=
  s.takeFrame (fun k => !isRequestKind k) fun p s => (s, [replyPayload (p.headD 0) .unknownKind []])

end Sys2Proof.Machine
end

