-- ==== Sys2Proof/Machine/Timers.lean ====
section
/-!
DEFINITION. The expiries of swap control's timers: WINDOW_TIMER_EXPIRY and CAP_DEADLINE_EXPIRY (R147), and
LAPSE (R161, R162).
-/

namespace Sys2Proof.Machine

/-- The window timer of a station has reached its close deadline (R147). -/
def State.closeDue (s : State) (n : StationId) : Bool :=
  match (s.station n).swap.window with
  | none => false
  | some w => reached s.timeBase w.close

/-- The time base has reached the cap deadline of a station's window (R147). -/
def State.capDue (s : State) (n : StationId) : Bool :=
  match (s.station n).swap.window with
  | none => false
  | some w => reached s.timeBase w.cap

/-- WINDOW_TIMER_EXPIRY (R147): the window closes and the order forms. -/
def execWindowTimerExpiry (n : StationId) (s : State) : Result :=
  s.whenPowered fun s => if s.closeDue n = true then s.closeWindow n else s

/-- CAP_DEADLINE_EXPIRY (R147): the window closes and the order forms. -/
def execCapDeadlineExpiry (n : StationId) (s : State) : Result :=
  s.whenPowered fun s => if s.capDue n = true then s.closeWindow n else s

/-- The lapse of an order (R162). -/
def State.lapseOrder (s : State) (n : StationId) (o : Order) : State :=
  ((s.withdrawOrder n o).halt n .lapsed none).queueNotice n .swapOrder

/-- LAPSE (R161, R162): it occurs when the lapse remaining is 0 while the order is ORDERED. -/
def execLapse (n : StationId) (s : State) : Result :=
  s.whenPowered fun s =>
    match (s.station n).swap.order with
    | none => s
    | some o => if o.state = .ordered ∧ o.lapse = 0 then s.lapseOrder n o else s

end Sys2Proof.Machine
end

