-- ==== Sys2Proof/Machine/Clock.lean ====
section
/-!
DEFINITION. The clock (R191): what one millisecond of the time base does by itself, and which commands of the
part's own then fall due. `step` does this on an empty queue.
-/

namespace Sys2Proof.Machine

/-- What a transmission has left after one millisecond at a rate; nothing once its last byte is sent
(DESIGN CHOICE, notes/assumptions/5.md). -/
def Tx.tick (x : Tx) (r : Rate) : Option Tx :=
  if x.left ≤ r.bits then none else some { x with left := x.left - r.bits }

/-- A link's transmitter goes on for one millisecond. -/
def Link.tick (l : Link) : Link := { l with sending := l.sending.bind fun x => x.tick l.rate }

/-- The last byte of the last frame of the reply in the slot has been sent between two states of the cell
link: the slot empties (R176, R180). -/
def Cell.tick (c : Cell) (before after : Link) : Cell :=
  match before.sending, after.sending with
  | some ⟨.reply _, _⟩, none => if c.reply = some [] then { c with reply := none } else c
  | _, _ => c

/-- The lapse timer counts down while the order is ORDERED (R161). -/
def Order.tick (o : Order) : Order :=
  match o.state with
  | .ordered => { o with lapse := o.lapse - 1 }
  | .deferred => o

/-- A station's lapse timer goes on for one millisecond. -/
def Station.tick (x : Station) : Station := { x with swap := { x.swap with order := x.swap.order.map Order.tick } }

/-- One millisecond passes: the time base rises (R191), the lapse timers count, the transmitters go on. -/
def State.millisecond (s : State) : State :=
  { s with
    timeBase := s.timeBase + 1
    stations := s.stations.map Station.tick
    links := s.links.map Link.tick
    cell := s.cell.tick (s.link 0) (s.link 0).tick }

/-- All links. -/
def linkIds : List LinkId := List.finRange 9

/-- The command that takes a record of this kind. -/
def StationRecord.command (n : StationId) : StationRecord → Instr
  | .partStart _ _ => .partStart n
  | .cut _ _ _ => .cut n
  | .dress _ _ _ => .dress n
  | .partEnd _ _ => .partEnd n

/-- The command that takes a request of this kind (kind code table). -/
def requestCommand (k : Byte) : Instr :=
  match k.toNat with
  | 0x10 => .toolEnter
  | 0x11 => .toolRecondition
  | 0x12 => .toolRemove
  | 0x13 => .toolAdjust
  | 0x14 => .toolPin
  | 0x15 => .toolUnpin
  | 0x16 => .toolRead
  | 0x17 => .toolTableRead
  | 0x18 => .toolRelease
  | 0x20 => .planBegin
  | 0x21 => .planSteps
  | 0x22 => .planDrop
  | 0x23 => .planRead
  | 0x30 => .roleDefine
  | 0x31 => .roleClear
  | 0x32 => .toolMount
  | 0x33 => .toolUnmount
  | 0x34 => .roleRead
  | 0x35 => .poolRead
  | 0x40 => .stationConfigure
  | 0x41 => .stationStart
  | 0x42 => .stationStop
  | 0x43 => .stationHalt
  | 0x44 => .stationResume
  | 0x45 => .stationRead
  | 0x50 => .swapDone
  | 0x51 => .swapRefused
  | 0x52 => .swapDefer
  | 0x53 => .swapResume
  | 0x54 => .orderRead
  | 0x60 => .linkRate
  | 0x61 => .status
  | _ => .unknownKind

/-- A command in a list if it is due. -/
def dueIf (b : Bool) (c : Instr) : List Instr := if b = true then [c] else []

/-- The lapse of a station's order has occurred (R161). -/
def State.lapseDue (s : State) (n : StationId) : Bool :=
  match (s.station n).swap.order with
  | none => false
  | some o => o.state == .ordered && o.lapse == 0

/-- What a station's intake takes next (R68). -/
def State.dueRecord (s : State) (n : StationId) : List Instr :=
  match (s.station n).intake.queue with
  | [] => []
  | q :: _ => dueIf (s.stationState n != .offline) (q.record.command n)

/-- What the cell request intake takes next (R176). -/
def State.dueRequest (s : State) : List Instr :=
  match s.cell.intake with
  | [] => []
  | p :: _ => dueIf s.canTake (requestCommand (p.headD 0))

/-- What is due at one link: its rate change, its gap timer's expiry, its oldest answer byte (R171, R173,
R184). -/
def State.dueLink (s : State) (l : LinkId) : List Instr :=
  dueIf (s.rateDue l) (.linkRateChange l) ++ dueIf (s.gapDue l) (.gap l)
    ++ dueIf (!(s.link l).answers.isEmpty) (.answerByteSend l)

/-- What is due at one station: the expiries of its window and its order (R147, R161), a waiting directive
(R130), its oldest record (R68). -/
def State.dueStation (s : State) (n : StationId) : List Instr :=
  let c := (s.station n).control
  dueIf (s.closeDue n) (.windowTimerExpiry n) ++ dueIf (s.capDue n) (.capDeadlineExpiry n)
    ++ dueIf (s.lapseDue n) (.lapse n) ++ dueIf (c.stateSlot.isSome || c.dressSlot.isSome) (.directiveSend n)
    ++ s.dueRecord n

/-- The commands that the part's own timers, intakes and transmitters bring about in a state, in a fixed
order: each is the front of something that waits, so each is a command whose time has come (DESIGN CHOICE,
notes/assumptions/2.md). -/
def State.due (s : State) : List Instr :=
  linkIds.flatMap (fun l => s.dueLink l)
    ++ dueIf (s.store.hold && decide (Config.writeHoldMs ≤ s.timeBase.toNat)) .writeHoldEnd
    ++ stationIds.flatMap (fun n => s.dueStation n)
    ++ s.dueRequest ++ dueIf s.cell.replyWaits .replySend ++ dueIf (!s.notices.isEmpty) .noticeSend

/-- The clock's step: a millisecond passes, and the commands then due join the queue. Without power the time
base does not run. -/
def State.clock (s : State) : State :=
  if s.powered = true then { s.millisecond with pending := s.pending ++ s.millisecond.due } else s

end Sys2Proof.Machine
end

