-- ==== Sys2Proof/Machine/PlanRequests.lean ====
section
/-!
DEFINITION. The plan requests (R51 to R56, R63), checked in the order of R51.
-/

namespace Sys2Proof.Machine

/-- Steps 1 and 2 of R51 and R132: the payload length, then the station. -/
def State.withStation (s : State) (p : Payload) (lengthOk : Bool) (f : StationId → State × Answered) :
    State × Answered :=
  if lengthOk = false then s.refuse .badLength
  else match stationOf (field p 1 1) with
    | none => s.refuse .badValue
    | some n => f n

/-- A station's staged slot takes new contents. -/
def State.setStaged (s : State) (n : StationId) (x : Option StagedPlan) : State :=
  s.setPlans n { (s.station n).plans with staged := x }

def State.planBegin (s : State) (p : Payload) : State × Answered :=
  s.withStation p (p.length == 6) fun n =>
    let revision := field p 2 2
    let count := field p 5 1
    match planModeOfCode (field p 4 1) with
    | none => s.refuse .badValue
    | some mode =>
      if 1 ≤ revision ∧ 1 ≤ count ∧ count ≤ 24 then
        (s.setStaged n (some ⟨revision, mode, .filling, List.replicate count none⟩), .ok)
      else s.refuse .badValue

/-- PLAN_BEGIN (R52). -/
def execPlanBegin (s : State) : Result := s.takeRequest 0x20 fun p s => s.planBegin p

/-- A staged plan that Plan Steps has written is settled (R54, R55): still FILLING while a step is unwritten,
else COMPLETE if its positions are defined roles, else discarded with BAD_PLAN. -/
def State.settleStaged (s : State) (n : StationId) (x : StagedPlan) : State × Answered :=
  match x.toPlan with
  | none => (s.setStaged n (some x), ⟨.done, le 1 x.fill.code ++ le 1 x.written⟩)
  | some plan =>
    if s.planDefined n plan = true then
      (s.setStaged n (some { x with fill := .complete }),
        ⟨.done, le 1 FillState.complete.code ++ le 1 x.written⟩)
    else (s.setStaged n none, .refuse .badPlan)

def State.planSteps (s : State) (p : Payload) : State × Answered :=
  let count := field p 3 1
  s.withStation p (decide (4 ≤ p.length) && p.length == 4 + 11 * count) fun n =>
    let first := field p 2 1
    match (s.station n).plans.staged with
    | none => s.refuse .notDefined
    | some x =>
      if 1 ≤ count ∧ count ≤ 24 ∧ 1 ≤ first ∧ first + count - 1 ≤ x.steps.length then
        match parseSteps p with
        | none => s.refuse .badValue
        | some new => s.settleStaged n { x with steps := writeSteps x.steps first new }
      else s.refuse .badValue

/-- PLAN_STEPS (R53 to R55). -/
def execPlanSteps (s : State) : Result := s.takeRequest 0x21 fun p s => s.planSteps p

def State.planDrop (s : State) (p : Payload) : State × Answered :=
  s.withStation p (p.length == 2) fun n =>
    match (s.station n).plans.staged with
    | none => s.refuse .notDefined
    | some _ => (s.setStaged n none, .ok)

/-- PLAN_DROP (R56). -/
def execPlanDrop (s : State) : Result := s.takeRequest 0x22 fun p s => s.planDrop p

def State.planRead (s : State) (p : Payload) : State × Answered :=
  s.withStation p (p.length == 3) fun n =>
    let slots := (s.station n).plans
    match field p 2 1 with
    | 1 => (s, ⟨.done, planReadData (slots.active.map Plan.asStaged)⟩)
    | 2 => (s, ⟨.done, planReadData slots.staged⟩)
    | 3 => (s, ⟨.done, planReadData (slots.returned.map Plan.asStaged)⟩)
    | _ => s.refuse .badValue

/-- PLAN_READ (R63). -/
def execPlanRead (s : State) : Result := s.takeRequest 0x23 fun p s => s.planRead p

end Sys2Proof.Machine
end

