-- ==== Sys2Proof/Machine/Power.lean ====
section
/-!
DEFINITION. Power and the record store (chapter 10): what an unfinished or failed write leaves (R189,
R190), the restoring and settling of the records at start-up (R192 to R195, R44), and the commands
POWER_UP, POWER_LOSS, WRITE_HOLD_END and STORE_WRITE_COMPLETE.
-/

namespace Sys2Proof.Machine

/-! ### Stored copies -/

/-- The identity part of a tool record (R186). -/
def ToolRecord.identity (t : ToolRecord) : Identity :=
  { kind := t.kind, pool := t.pool, label := t.label, recond := t.recond }

/-- The identity part of a stored tool record, where it is sound (R186). -/
def storedIdentity : Stored ToolRecord BadTool → Option Identity
  | .sound t => some t.identity
  | .failing b => b.identity

/-- A stored tool record left failing its check by a write that carried `new` over `old`. -/
def spoiledTool (old : Stored ToolRecord BadTool) (new : ToolRecord) (i : TornImage) : Stored ToolRecord BadTool :=
  .failing
    { identity := match i.identity with
        | .earlier => storedIdentity old
        | .carried => some new.identity
        | .failing => none
      raw := i.raw }

/-- The stored copies after a write of `c` that verified: the copy is sound and holds `c` (R189). -/
def StoredCopies.write (k : StoredCopies) : Content → StoredCopies
  | .tool t x => { k with tools := k.tools.set t (.sound x) }
  | .role r x => { k with roles := k.roles.set r.station (k.roles[r.station].set r.pos (.sound x)) }
  | .plan n x => { k with plans := k.plans.set n (.sound x) }
  | .settings n x => { k with settings := k.settings.set n (.sound x) }

/-- The stored copies after a write of `c` that left its record failing its check (R189, R190). -/
def StoredCopies.spoil (k : StoredCopies) (i : TornImage) : Content → StoredCopies
  | .tool t x => { k with tools := k.tools.set t (spoiledTool k.tools[t] x i) }
  | .role r _ => { k with roles := k.roles.set r.station (k.roles[r.station].set r.pos (.failing ())) }
  | .plan n _ => { k with plans := k.plans.set n (.failing ()) }
  | .settings n _ => { k with settings := k.settings.set n (.failing ()) }

/-- The record a content belongs to. -/
def Content.id : Content → RecordId
  | .tool t _ => .tool t
  | .role r _ => .role r
  | .plan n _ => .plan n
  | .settings n _ => .settings n

/-- The stored copies after a power loss or RESET_N ends the write in flight unfinished (R190). -/
def StoredCopies.torn (k : StoredCopies) (flight : Option Content) (torn : Torn) : StoredCopies :=
  match flight, torn with
  | none, _ => k
  | some _, .earlier => k
  | some c, .carried => k.write c
  | some c, .broken i => k.spoil i c

/-! ### Loading the records (R192) -/

/-- The nearest bound of a range for a value outside it. -/
def clamp (lo hi v : Nat) : Nat := max lo (min hi v)

/-- A life group read from a failing image, each value brought into its range (R4, R5, R192). -/
def loadLife (kind : Option Kind) (x : RawTool) : Life :=
  match kind with
  | none => .absent
  | some .wheel =>
    let dNew := clamp 50000 1200000 x.dNew
    .wheel
      { dNew := dNew, dMin := clamp 40000 (dNew - 1) x.dMin, dNow := min dNew x.dNow,
        dressStep := clamp 1 5000 x.dressStep, dressLimit := clamp 1 60000 x.dressLimit,
        warnDresses := min 10000 x.warnDresses }
  | some .dresser =>
    let budget := clamp 1 1000000000 x.lifeBudget
    .dresser { lifeBudget := budget, warnWu := min budget x.warnWu }

/-- The accounts read from a failing image, each brought into its range (R6, R192). -/
def loadAccounts (x : RawTool) : Accounts :=
  { wd := min Config.max16 x.wd, wt := min Config.max32 x.wt, partsTotal := min Config.max32 x.partsTotal,
    partsSinceDress := min Config.max16 x.partsSinceDress, dressCount := min Config.max16 x.dressCount,
    avg := min 1048560 x.avg, tripCount := min 65535 x.tripCount }

/-- A trip record read from a failing image: absent where its cause is no trip cause, else each value
brought into its range (R93, R192). -/
def loadTrip (x : RawTrip) : Option TripRecord :=
  (tripCauseOfCode x.cause).map fun cause =>
    { cause := cause
      role := ⟨Fin.ofNat 8 (clamp 1 8 x.station - 1), Fin.ofNat 5 (min 4 x.pos)⟩
      step := x.step.map (clamp 1 24)
      journal := x.journal.map (clamp 1 15)
      tag := x.tag.map (min Config.max32)
      peak := x.peak.map (min Config.maxPeak)
      q := x.q.map (min 16776960)
      stamp := BitVec.ofNat 48 (min (2 ^ 48 - 1) x.stamp) }

/-- A tool record that fails its check, as it is loaded (R192). One whose identity part is sound and has
no kind loads no life group (DEDUCED, notes/assumptions/14.md). -/
def loadBadTool (b : BadTool) : ToolRecord :=
  match b.identity with
  | none => { ToolRecord.vacant with state := .retired, flags := { noFlags with storeFault := true } }
  | some i =>
    { state := .retired, life := loadLife i.kind b.raw, pool := i.pool, label := i.label, recond := i.recond,
      acc := loadAccounts b.raw, flags := { b.raw.flags with storeFault := true }, link := none,
      trip := b.raw.trip.bind loadTrip }

/-- One tool record is read and handed to the tool table (R192). -/
def State.loadTool (s : State) (t : ToolId) : State :=
  match s.copies.tools[t] with
  | .sound x => { s with tools := s.tools.set t x }
  | .failing b => ({ s with tools := s.tools.set t (loadBadTool b) }).mark (.tool t)

/-- One role record is read and handed to the role table (R192); the role state is settled later. -/
def State.loadRole (s : State) (r : RoleId) : State :=
  match s.copies.roles[r.station][r.pos] with
  | .sound x => s.setRole r ⟨x, .undefined⟩
  | .failing _ => (s.setRole r ⟨.undefined, .undefined⟩).mark (.role r)

/-- A station's standing plan and settings are read (R192). -/
def State.loadStation (s : State) (n : StationId) : State :=
  let s1 := match s.copies.plans[n] with
    | .sound p => s.setPlans n { (s.station n).plans with active := p }
    | .failing _ => s.mark (.plan n)
  match s.copies.settings[n] with
  | .sound x => s1.setControl n { (s1.station n).control with settings := x }
  | .failing _ => s1.mark (.settings n)

/-- Every stored record is read, in scan order (R192). -/
def State.loadRecords (s : State) : State :=
  let s1 := toolIds.foldl (fun s t => s.loadTool t) s
  let s2 := roleIds.foldl (fun s r => s.loadRole r) s1
  stationIds.foldl (fun s n => s.loadStation n) s2

/-! ### Placing the tools (R193) -/

/-- Step 1: an unconfirmed reservation is returned. -/
def ToolRecord.unreserved (x : ToolRecord) : ToolRecord :=
  match x.link with
  | some ⟨_, .reserved⟩ => if x.state = .reserved then x.toStore else x
  | _ => x

/-- A tool that leaves its role as one that was to serve or was staged: STORED and PINNED (R193). -/
def ToolRecord.leftPinned (x : ToolRecord) : ToolRecord := x.toStore.withPinned true

/-- Whether a tool's link names a role it cannot serve (R193 step 2). -/
def roleLost (role : RoleRecord) (pos : Pos) (x : ToolRecord) : Bool :=
  !role.defined || role.pool != x.pool || x.kind != some (posKind pos)

/-- Step 2: a tool whose role is lost leaves it. -/
def State.leaveLostRole (s : State) (x : ToolRecord) : ToolRecord :=
  match x.link with
  | none => x
  | some l =>
    if roleLost (s.role l.role).record l.role.pos x = true then
      match x.state with
      | .active => x.leftPinned
      | .reserved => x.leftPinned
      | .worn => x.toRetired
      | .broken => x.toRetired
      | _ => { x with link := none }
    else x

/-- Step 3: a tool claims the current place of a role. -/
def State.claimsCurrent (s : State) (r : RoleId) (t : ToolId) : Bool :=
  let x := s.tool t
  x.link == some ⟨r, .current⟩ && (x.state == ToolState.active || x.state == ToolState.worn || x.state == ToolState.broken)

/-- Step 3: a tool claims the staged place of a role. -/
def State.claimsStaged (s : State) (r : RoleId) (t : ToolId) : Bool :=
  let x := s.tool t
  x.link == some ⟨r, .staged⟩ && x.state == ToolState.reserved

/-- Step 4: the tool that holds a place, from the place's claimants and those of the role's other place, and
the tools the role record names for the two. A place that no tool claims may go to one of two or more
claimants of the other place: the one the record names for this place and not for that one. -/
def placeHolder (claims otherClaims : List ToolId) (named otherNamed : Option ToolId) : Option ToolId :=
  match claims with
  | [] =>
    match named with
    | some t => if 2 ≤ otherClaims.length ∧ t ∈ otherClaims ∧ otherNamed ≠ some t then some t else none
    | none => none
  | [t] => some t
  | _ =>
    match named with
    | some t => if t ∈ claims then some t else none
    | none => none

/-- Steps 4 and 5 for one role: its places are settled, every other claimant leaves it, and the role's
fields are rebuilt. A claimant that goes to the other place takes that place's state and relation
(DEDUCED, notes/assumptions/12.md). DESIGN CHOICE, notes/assumptions/12.md: a BROKEN claimant that goes to the
staged place becomes RESERVED like any other and keeps its BREAK_MARK, though R97 finds that mark on BROKEN and
RETIRED tools alone. -/
def State.settleClaims (s : State) (r : RoleId) : State :=
  let role := (s.role r).record
  if role.defined = false then s
  else
    let cur := toolIds.filter fun t => s.claimsCurrent r t
    let stg := toolIds.filter fun t => s.claimsStaged r t
    let holdsCur := placeHolder cur stg role.current role.staged
    let holdsStg := placeHolder stg cur role.staged role.current
    let s1 := cur.foldl (fun s t =>
      if holdsCur = some t then s
      else if holdsStg = some t then
        s.putTool t { s.tool t with state := .reserved, link := some ⟨r, .staged⟩ }
      else s.putTool t (s.tool t).toRetired) s
    let s2 := stg.foldl (fun s t =>
      if holdsStg = some t then s
      else if holdsCur = some t then
        s.putTool t { s.tool t with state := .active, link := some ⟨r, .current⟩ }
      else s.putTool t (s.tool t).leftPinned) s1
    s2.putRole r { role with current := holdsCur, staged := holdsStg }

/-- The tools are given their places at the roles (R193), and those it returned to the store are handed to
their pools, whose queues are empty (R194). -/
def State.placeTools (s : State) : State :=
  let s1 := toolIds.foldl (fun s t => s.putTool t (s.tool t).unreserved) s
  let s2 := toolIds.foldl (fun s t => s.putTool t (s.leaveLostRole (s.tool t))) s1
  roleIds.foldl (fun s r => s.settleClaims r) s2

/-- The restart charge reaches the ACTIVE current tool of a role, its record is marked, and its role's state
is settled (R44, R195). -/
def State.restartRole (s : State) (r : RoleId) : State :=
  let role := (s.role r).record
  let s1 : State := match role.current with
    | none => s
    | some t =>
      if role.defined = true ∧ (s.tool t).state = .active then
        let charge := (s.station r.station).control.settings.restartCharge
        ((s.putTool t ((s.tool t).restarted charge)).warnTool t).mark (.tool t)
      else s
  s1.setRoleState r (settledState s1 r)

/-- Start-up from given stored copies (R191 to R195): every volatile item takes its reset value, then the
records are loaded, the tools placed, the staged tools adopted and the restart charges made, these role by
role (DESIGN CHOICE, notes/assumptions/12.md). -/
def State.startUp (copies : StoredCopies) (pending : List Instr) : State :=
  let s1 := (State.blank copies pending).loadRecords.placeTools
  let s2 := stationIds.foldl (fun s n => s.adoptStation n) s1
  roleIds.foldl (fun s r => s.restartRole r) s2

/-! ### The commands -/

/-- POWER_UP (R191): power-up, or RESET_N asserted and released, the part's one reset. -/
def execPowerUp (torn : Torn) (s : State) : Result :=
  .next (State.startUp (s.copies.torn s.store.inFlight torn) s.pending)

/-- POWER_LOSS (R190): the write in flight is left unfinished, and all volatile state is lost. -/
def execPowerLoss (torn : Torn) (s : State) : Result :=
  .next { State.blank (s.copies.torn s.store.inFlight torn) s.pending with powered := false }

/-- WRITE_HOLD_END (R196): at time base 50 the hold ends and the first write may begin. -/
def execWriteHoldEnd (s : State) : Result :=
  s.whenPowered fun s =>
    if s.store.hold = true ∧ Config.writeHoldMs ≤ s.timeBase.toNat then
      { s with store := { s.store with hold := false } }
    else s

/-- The STORE halt of R128: every station that is not OFFLINE is halted. R128 and R189 give the stations no
order among themselves: the model halts them in ascending number, which decides the order in which their HALT
notices join the notice queue (DESIGN CHOICE, notes/assumptions/16.md). -/
def State.haltAll (s : State) : State := stationIds.foldl (fun s n => s.halt n .store none) s

/-- A write of `c` passes its verification (R189). -/
def State.writePassed (s : State) (c : Content) : State :=
  { s with
    copies := s.copies.write c
    store := { s.store with
      inFlight := none, failures := s.store.failures.set c.id.place 0, state := .ok } }

/-- A write of `c` fails its verification (R189): the record returns to the set, its count rises, and at 3
an OK store becomes FAILED and asks the STORE halt. -/
def State.writeFailed (s : State) (c : Content) (i : TornImage) : State :=
  let count := min 3 (s.store.failures[c.id.place] + 1)
  let s1 : State :=
    { s with
      copies := s.copies.spoil i c
      store := { s.store with
        inFlight := none
        marked := s.store.marked.set c.id.place true
        failures := s.store.failures.set c.id.place count } }
  if count = 3 ∧ s.store.state = .ok then
    State.haltAll { s1 with store := { s1.store with state := .failed } }
  else s1

/-- STORE_WRITE_COMPLETE (R189): the write in flight completes and is verified; the next write begins at
once if it can (R188). With no write in flight nothing completes. -/
def execStoreWriteComplete (result : WriteResult) (s : State) : Result :=
  s.whenPowered fun s =>
    match s.store.inFlight with
    | none => s
    | some c =>
      match result with
      | .passes => s.writePassed c
      | .fails i => s.writeFailed c i

end Sys2Proof.Machine
end

