-- ==== Sys2Proof/Machine/Verdict.lean ====
section
/-!
DEFINITION. The verdict unit (chapter 5): the judging of cuts, dresses and scrapped parts (R85 to R88),
the history and its strikes (R89, R91), and trips with what a first trip hands on (R92 to R95).
-/

namespace Sys2Proof.Machine

/-- The class of a verdict (R85, R87, R88). -/
inductive VerdictClass where
  | clean | soft | hard
  deriving DecidableEq, Repr

def Verdict.cls : Verdict → VerdictClass
  | .clean => .clean
  | .hardOverload => .hard
  | .hardNoContact => .hard
  | .hardDresser => .hard
  | .softHigh => .soft
  | .softLow => .soft
  | .softDresser => .soft
  | .softGauge => .soft

/-- The verdict of a cut (R85): `peak` as clamped, `q` unclamped. -/
def judgeCut (peak q : Nat) (step : PlanStep) (role : RoleRecord) : Verdict :=
  if step.peakHi < peak then .hardOverload
  else if step.kind ≠ .spark ∧ peak < step.peakLo then .hardNoContact
  else if role.eHi < q then .softHigh
  else if q < role.eLo then .softLow
  else .clean

/-- The verdict of a dress on the dresser (R87). -/
def judgeDress (peak : Nat) (role : RoleRecord) : Verdict :=
  if role.dresserHi < peak then .hardDresser
  else if peak < role.dresserLo then .softDresser
  else .clean

/-- A verdict is pushed at the front of a history of at most 4 (R89). -/
def pushVerdict (h : List Verdict) (v : Verdict) : List Verdict := (v :: h).take Config.historyLength

/-- The strike count of a history (R89). -/
def strikes (h : List Verdict) : Nat := (h.filter fun v => v.cls == .soft).length

/-- The test of R91 on the history that the verdict was pushed into. -/
def trips (h : List Verdict) (v : Verdict) (limit : Nat) : Bool :=
  match v.cls with
  | .hard => true
  | .soft => decide (limit ≤ strikes h)
  | .clean => false

/-- The cause that follows the verdict that tripped (R92). -/
def Verdict.tripCause : Verdict → TripCause
  | .hardOverload => .overload
  | .hardNoContact => .noContact
  | .hardDresser => .dresser
  | _ => .strikes

/-- A trip of a role's current tool (R92), and what a first trip hands on: the halt, then the need (R94;
DEDUCED, notes/assumptions/10.md). A repeat trip hands nothing on (R95). -/
def State.trip (s : State) (t : ToolId) (trip : TripRecord) : State :=
  let x := s.tool t
  let s' := s.putTool t (x.tripped trip)
  if x.firstTrips = true then
    (s'.halt trip.role.station .breakage (some t)).raiseNeed trip.role true
  else s'

/-- A verdict is given to a role's current tool: pushed, then tested for a trip (R89, R91). `details` is the
trip record the verdict would leave; its cause is the verdict's. -/
def State.giveVerdict (s : State) (t : ToolId) (v : Verdict) (details : TripRecord) : State :=
  let h := pushVerdict (s.history t) v
  let s' := s.setHistory t h
  if trips h v (s.role details.role).record.strikeLimit = true then
    s'.trip t { details with cause := v.tripCause }
  else s'

end Sys2Proof.Machine
end

