-- ==== Sys2Proof/Machine/Records.lean ====
section
/-!
DEFINITION. Station records as the intake takes them (chapter 4): PART_START (R71 to R73), CUT (R75, R76),
DRESS (R77) and PART_END (R78 to R80).
-/

namespace Sys2Proof.Machine

/-! ### Parts -/

/-- Abandoning a part (R73): it closes without an end, and a ONE_PART plan gives way to the return plan. -/
def State.abandonPart (s : State) (n : StationId) : State :=
  let x := s.station n
  let c := x.intake.counters
  s.setStation n { x with
    intake := { x.intake with
      part := none, pointer := 0,
      counters := { c with abandoned := satAdd Config.max32 c.abandoned 1 } }
    plans := x.plans.closed }

/-- The part in progress is created (R72 step 3, R74) and the station is IN_PART. -/
def State.createPart (s : State) (n : StationId) (tag : Nat) : State :=
  let x := s.station n
  s.setStation n { x with
    intake := { x.intake with
      part := some ⟨tag, []⟩, pointer := 0, counters := { x.intake.counters with skipped := 0 } }
    control := { x.control with state := .inPart } }

/-- Steps 2 and 3 of R72: the plan of the new part is settled (R58) and the part created, or the station is
halted for PLAN. -/
def State.settlePart (s : State) (n : StationId) (tag expected : Nat) : State :=
  match (s.station n).plans.candidate with
  | none => s.halt n .plan none
  | some (plan, staged) =>
    if (expected ≠ 0 ∧ expected ≠ plan.revision) ∨ s.planTooled n plan = false then s.halt n .plan none
    else (if staged = true then s.adoptPlan n plan else s).createPart n tag

/-- A PART_START that reaches a start (R72), with the needs of its adoption placed last (R144). -/
def State.startPart (s : State) (n : StationId) (tag expected : Nat) : State :=
  let adopting := s.stagedPositions n
  ((s.adoptStation n).settlePart n tag expected).placeAdopted n adopting

/-- A PART_START at a station that is READY, or has become so by an abandonment (R71). -/
def State.partStartReady (s : State) (n : StationId) (tag expected : Nat) : State :=
  match (s.station n).swap.window with
  | some _ => (s.closeWindow n).countRefused n
  | none => s.startPart n tag expected

/-- A PART_START refused at a HELD station (R71): HOLD is sent again. -/
def State.refuseHeld (s : State) (n : StationId) : State := (s.countRefused n).askState n .hold

/-- A PART_START refused at a HALTED station (R71): HALT is sent again with the halt cause. -/
def State.refuseHalted (s : State) (n : StationId) : State :=
  match (s.station n).control.cause with
  | some c => (s.countRefused n).askState n (.halt c)
  | none => s.countRefused n

/-- A PART_START is treated by the station state (R71). -/
def State.partStart (s : State) (n : StationId) (tag expected : Nat) : State :=
  match s.stationState n with
  | .ready => s.partStartReady n tag expected
  | .inPart => ((s.abandonPart n).setStationState n .ready).partStartReady n tag expected
  | .stopping => ((s.abandonPart n).setStationState n .held).refuseHeld n
  | .held => s.refuseHeld n
  | .halted => s.refuseHalted n
  | .offline => s

/-- PART_START: the intake takes a PART_START record (R71). -/
def execPartStart (n : StationId) (s : State) : Result :=
  s.takeRecord n (fun r => match r with | .partStart tag expected => some (tag, expected) | _ => none)
    fun a _ s => s.partStart n a.1 a.2

/-! ### Cuts -/

/-- A tool joins the tool list at its first accepted cut, and its FINISH mark is set by a FINISH cut (R74). -/
def joinTools (ts : List PartTool) (t : ToolId) (p : Pos) (finish : Bool) : List PartTool :=
  if ts.any (fun x => x.tool == t) then
    ts.map fun x => if x.tool = t then { x with finish := x.finish || finish } else x
  else ts ++ [⟨t, p, finish⟩]

/-- Steps 1 and 2 of R76: the pointer moves, the skipped steps are counted (R81; DEDUCED,
notes/assumptions/14.md), the step's tool joins the list. -/
def State.walkTo (s : State) (n : StationId) (part : Part) (k : Nat) (step : PlanStep) : State :=
  let i := (s.station n).intake
  let tools := match (s.role ⟨n, step.pos⟩).record.current with
    | none => part.tools
    | some t => joinTools part.tools t step.pos (step.kind == .finish)
  s.setIntake n { i with
    pointer := k
    part := some { part with tools := tools }
    counters := { i.counters with skipped := satAdd 24 i.counters.skipped (k - i.pointer - 1) } }

/-- Step 3 of R76: the charge of a cut with its conditions, in the order of R31: dress interval and wear-out
(R32), OVERDUE and its halt (R33), the warning (R17; DEDUCED, notes/assumptions/10.md). -/
def State.chargeCut (s : State) (n : StationId) (t : ToolId) (c : Nat) : State :=
  let x := (s.tool t).charged c
  let s1 := s.putWorn t x
  let s2 := if x.isOverdue = true then
      (s1.putTool t (s1.tool t).overdueTested).halt n .overdue (some t)
    else s1
  s2.warnTool t

/-- A cut that R60 accepts for step `k` (R76). -/
def State.acceptCut (s : State) (n : StationId) (part : Part) (k : Nat) (step : PlanStep)
    (peak energy : Nat) (stamp : Time) : State :=
  let s1 := s.walkTo n part k step
  match (s.role ⟨n, step.pos⟩).record.current with
  | none => s1
  | some t =>
    let q := rawRatio energy step.eExp
    let pk := min peak Config.maxPeak
    let s2 := s1.chargeCut n t (cutCharge step.baseCost q)
    s2.giveVerdict t (judgeCut pk q step (s2.role ⟨n, step.pos⟩).record)
      { cause := .strikes, role := ⟨n, step.pos⟩, step := some k, journal := some step.journal,
        tag := some part.tag, peak := some pk, q := some q, stamp := stamp }

/-- A CUT is treated by the station state (R75): walked while a part is in progress, else a sequence fault. -/
def State.cut (s : State) (n : StationId) (k peak energy : Nat) (stamp : Time) : State :=
  let x := s.station n
  match x.intake.part with
  | none => s.halt n .sequence none
  | some part =>
    if x.control.state = .inPart ∨ x.control.state = .stopping ∨ x.control.state = .halted then
      match walkStep x.plans.active x.intake.pointer k with
      | none => s.halt n .sequence none
      | some step => s.acceptCut n part k step peak energy stamp
    else s.halt n .sequence none

/-- CUT: the intake takes a CUT record (R75). -/
def execCut (n : StationId) (s : State) : Result :=
  s.takeRecord n (fun r => match r with | .cut k peak energy => some (k, peak, energy) | _ => none)
    fun a stamp s => s.cut n a.1 a.2.1 a.2.2 stamp

/-! ### Dresses -/

/-- The wheel dress of R36 with the conditions of R39 and the warning. -/
def State.dressWheel (s : State) (t : ToolId) (r : Nat) : State :=
  (s.putWorn t ((s.tool t).dressed r)).warnTool t

/-- The dress_step of a wheel; a tool that is no wheel has none. -/
def ToolRecord.dressStep (t : ToolRecord) : Nat :=
  match t.life with
  | .wheel w => w.dressStep
  | _ => 0

/-- The dresser charge of R40 with the evaluation of R41. -/
def State.chargeDresser (s : State) (t : ToolId) (c : Nat) : State :=
  (s.putWorn t ((s.tool t).dresserCharged c)).warnTool t

/-- Step 2 of R77: the dresser at position 0 is charged and judged. -/
def State.dressDresser (s : State) (n : StationId) (rEff dressStep peak : Nat) (stamp : Time) : State :=
  let role := (s.role ⟨n, 0⟩).record
  match role.current with
  | none => s
  | some t =>
    let pk := min peak Config.maxPeak
    let s1 := s.chargeDresser t (dresserCharge role.dressCost rEff dressStep)
    s1.giveVerdict t (judgeDress pk role)
      { cause := .strikes, role := ⟨n, 0⟩, step := none, journal := none,
        tag := (s.station n).intake.part.map fun p => p.tag, peak := some pk, q := none, stamp := stamp }

/-- A DRESS is applied to the wheel at the position and to the dresser, or refused (R77). -/
def State.dress (s : State) (n : StationId) (pos : Pos) (r peak : Nat) (stamp : Time) : State :=
  let role := (s.role ⟨n, pos⟩).record
  match role.current with
  | none => s.countRefused n
  | some t =>
    if role.defined = false then s.countRefused n
    else
      let step := (s.tool t).dressStep
      (s.dressWheel t r).dressDresser n (effectiveDepth r step) step peak stamp

/-- DRESS: the intake takes a DRESS record (R77). -/
def execDress (n : StationId) (s : State) : Result :=
  s.takeRecord n (fun r => match r with | .dress pos depth peak => some (pos, depth, peak) | _ => none)
    fun a stamp s => s.dress n a.1 a.2.1 a.2.2 stamp

/-! ### Ends of parts -/

/-- Step 1 of R79: the tools of the list receive their part counts. -/
def State.countParts (s : State) (ts : List PartTool) : State :=
  ts.foldl (fun s x => s.putTool x.tool (s.tool x.tool).partCounted) s

/-- Step 2 of R79: the gauge counter rises. -/
def Counters.gauged (c : Counters) : Gauge → Counters
  | .good => { c with good := satAdd Config.max32 c.good 1 }
  | .rework => { c with rework := satAdd Config.max32 c.rework 1 }
  | .scrap => { c with scrap := satAdd Config.max32 c.scrap 1 }

/-- The tools of a list with their FINISH mark, in ascending position (R88). -/
def finishedTools (ts : List PartTool) : List PartTool :=
  wheelPositions.flatMap fun p => ts.filter fun x => x.pos == p && x.finish

/-- Step 3 of R79: a SCRAP result gives SOFT_GAUGE to each tool with a FINISH mark, each verdict whole before
the next (R88). -/
def State.gaugeVerdicts (s : State) (n : StationId) (part : Part) (g : Gauge) (stamp : Time) : State :=
  match g with
  | .good => s
  | .rework => s
  | .scrap =>
    (finishedTools part.tools).foldl (fun s x =>
      s.giveVerdict x.tool .softGauge
        { cause := .strikes, role := ⟨n, x.pos⟩, step := none, journal := none, tag := some part.tag,
          peak := none, q := none, stamp := stamp }) s

/-- The state a station takes when its part closes (R124). -/
def StationState.partClosed : StationState → StationState
  | .inPart => .ready
  | .stopping => .held
  | x => x

/-- Step 4 of R79: the part is deleted, the return plan comes back, the station moves. -/
def State.deletePart (s : State) (n : StationId) : State :=
  let x := s.station n
  s.setStation n { x with
    intake := { x.intake with part := none, pointer := 0 }
    plans := x.plans.closed
    control := { x.control with state := x.control.state.partClosed } }

/-- The wheel positions whose current tool is DRESS_DUE, ascending (R80). -/
def State.dressDuePositions (s : State) (n : StationId) : List Pos :=
  wheelPositions.filter fun p =>
    match (s.role ⟨n, p⟩).record.current with
    | some t => (s.tool t).flags.dressDue
    | none => false

/-- A PART_END whose tag matches closes the part (R79). -/
def State.closePart (s : State) (n : StationId) (part : Part) (g : Gauge) (stamp : Time) : State :=
  let s1 := s.countParts part.tools
  let s2 := s1.setCounters n ((s1.station n).intake.counters.gauged g)
  let s3 := (s2.gaugeVerdicts n part g stamp).deletePart n
  (s3.askDress n (s3.dressDuePositions n)).closeWindow n

/-- A PART_END is treated by the part in progress (R78). -/
def State.partEnd (s : State) (n : StationId) (tag : Nat) (g : Gauge) (stamp : Time) : State :=
  match (s.station n).intake.part with
  | none => s.countRefused n
  | some part => if part.tag = tag then s.closePart n part g stamp else s.halt n .sequence none

/-- PART_END: the intake takes a PART_END record (R78). -/
def execPartEnd (n : StationId) (s : State) : Result :=
  s.takeRecord n (fun r => match r with | .partEnd tag g => some (tag, g) | _ => none)
    fun a stamp s => s.partEnd n a.1 a.2 stamp

end Sys2Proof.Machine
end

