-- ==== Sys2Proof/Machine/RoleRequests.lean ====
section
/-!
DEFINITION. The role and pool requests (R108 to R113, R122), checked in the order of R108.
-/

namespace Sys2Proof.Machine

/-- A payload's station and position, 1 byte each, where both are in range (R108 step 2). -/
def roleOf (p : Payload) : Option RoleId :=
  match stationOf (field p 1 1), posOf (field p 2 1) with
  | some n, some pos => some ⟨n, pos⟩
  | _, _ => none

/-- Steps 1 and 2 of R108: the payload length, then station and position. -/
def State.withRole (s : State) (p : Payload) (len : Nat) (f : RoleId → State × Answered) : State × Answered :=
  if p.length ≠ len then s.refuse .badLength
  else match roleOf p with
    | none => s.refuse .badValue
    | some r => f r

/-- Step 3 of R108: the station must be OFFLINE. -/
def State.whenOffline (s : State) (n : StationId) (f : State × Answered) : State × Answered :=
  if s.stationState n = .offline then f else s.refuse .locked

/-- An accepted Role Define (R109): an UNDEFINED role becomes EMPTY, any other keeps its state; the record is
marked. -/
def State.defineRole (s : State) (r : RoleId) (x : RoleRecord) : State :=
  let old := s.role r
  (s.setRole r ⟨x, if old.state = .undefined then .empty else old.state⟩).mark (.role r)

def State.roleDefine (s : State) (p : Payload) : State × Answered :=
  s.withRole p 19 fun r => s.whenOffline r.station <|
    let x := (s.role r).record
    if x.current.isSome = true ∧ leOrZero 1 (x.pool.map num) ≠ (p.drop 3).take 1 then s.refuse .inUse
    else match definedRole p (posKind r.pos) x with
      | none => s.refuse .badValue
      | some y => (s.defineRole r y, .ok)

/-- ROLE_DEFINE (R109). -/
def execRoleDefine (s : State) : Result := s.takeRequest 0x30 fun p s => s.roleDefine p

/-- An accepted Role Clear (R110): the role is UNDEFINED with the values of R105. -/
def State.clearRole (s : State) (r : RoleId) : State :=
  (s.setRole r ⟨.undefined, .undefined⟩).mark (.role r)

def State.roleClear (s : State) (p : Payload) : State × Answered :=
  s.withRole p 3 fun r => s.whenOffline r.station <|
    let x := (s.role r).record
    if x.defined = false then s.refuse .notDefined
    else if (s.station r.station).plans.names r.pos = true then s.refuse .inUse
    else if x.current.isSome = true ∨ x.staged.isSome = true then s.refuse .inUse
    else (s.clearRole r, .ok)

/-- ROLE_CLEAR (R110). -/
def execRoleClear (s : State) : Result := s.takeRequest 0x31 fun p s => s.roleClear p

/-- An accepted Tool Mount (R111): the tool enters service at the role with an empty history; a role whose tool
enters WORN is NEEDY, and its need waits for Station Start (R106). -/
def State.mountTool (s : State) (r : RoleId) (t : ToolId) : State :=
  let s1 := (s.putTool t ((s.tool t).mountedAt r)).setHistory t []
  let s2 := s1.putRole r { (s1.role r).record with current := some t }
  s2.setRoleState r (settledState s2 r)

def State.toolMount (s : State) (p : Payload) : State × Answered :=
  if p.length ≠ 4 then s.refuse .badLength
  else match roleOf p, toolOf (field p 3 1) with
    | some r, some t =>
      s.whenOffline r.station <|
        let role := s.role r
        let x := s.tool t
        if role.record.defined = false then s.refuse .notDefined
        else if role.state ≠ .empty then s.refuse .inUse
        else if x.state = .vacant then s.refuse .notDefined
        else if x.state ≠ .stored then s.refuse .wrongState
        else if x.kind ≠ some (posKind r.pos) ∨ x.pool ≠ role.record.pool then s.refuse .badValue
        else (s.mountTool r t, .ok)
    | _, _ => s.refuse .badValue

/-- TOOL_MOUNT (R111). -/
def execToolMount (s : State) : Result := s.takeRequest 0x32 fun p s => s.toolMount p

/-- The role's current tool field is emptied and the role is EMPTY (R112). -/
def State.emptyRole (s : State) (r : RoleId) : State :=
  (s.putRole r { (s.role r).record with current := none }).setRoleState r .empty

def State.toolUnmount (s : State) (p : Payload) : State × Answered :=
  s.withRole p 3 fun r => s.whenOffline r.station <|
    let role := s.role r
    if role.record.defined = false then s.refuse .notDefined
    else match role.record.current, role.state with
      | some t, .running =>
        (((s.putTool t (s.tool t).toStore).emptyRole r).offer t, .ok)
      | some t, .needy => ((s.putTool t (s.tool t).toRetired).emptyRole r, .ok)
      | _, _ => s.refuse .wrongState

/-- TOOL_UNMOUNT (R112). -/
def execToolUnmount (s : State) : Result := s.takeRequest 0x33 fun p s => s.toolUnmount p

def State.roleRead (s : State) (p : Payload) : State × Answered :=
  s.withRole p 3 fun r => (s, ⟨.done, roleReadData s r⟩)

/-- ROLE_READ (R113). -/
def execRoleRead (s : State) : Result := s.takeRequest 0x34 fun p s => s.roleRead p

def State.poolRead (s : State) (p : Payload) : State × Answered :=
  if p.length ≠ 2 then s.refuse .badLength
  else match poolOf (field p 1 1) with
    | none => s.refuse .badValue
    | some q => (s, ⟨.done, poolReadData s q⟩)

/-- POOL_READ (R122). -/
def execPoolRead (s : State) : Result := s.takeRequest 0x35 fun p s => s.poolRead p

end Sys2Proof.Machine
end

