-- ==== Sys2Proof/Machine/StationRequests.lean ====
section
/-!
DEFINITION. The station requests (R132 to R140), checked in the order of R132.
-/

namespace Sys2Proof.Machine

/-- The reply DONE of a station request that changes the station reports the state it left (R132). -/
def stationDone (n : StationId) (s : State) : State × Answered := (s, ⟨.done, le 1 (s.stationState n).code⟩)

/-- An accepted Station Configure (R133): the six settings together, the record marked in every case. -/
def State.configure (s : State) (n : StationId) (x : Settings) : State :=
  (s.setControl n { (s.station n).control with settings := x }).mark (.settings n)

def State.stationConfigure (s : State) (p : Payload) : State × Answered :=
  s.withStation p (p.length == 18) fun n =>
    if s.stationState n ≠ .offline then s.refuse .locked
    else match parseSettings p with
      | none => s.refuse .badValue
      | some x => stationDone n (s.configure n x)

/-- STATION_CONFIGURE (R133). -/
def execStationConfigure (s : State) : Result := s.takeRequest 0x40 fun p s => s.stationConfigure p

/-- A current tool of the station's roles is OVERDUE (R134, R139). -/
def State.anyOverdue (s : State) (n : StationId) : Bool :=
  positions.any fun p =>
    match (s.role ⟨n, p⟩).record.current with
    | some t => (s.tool t).flags.overdue
    | none => false

/-- Some role of the station is NEEDY. -/
def State.anyNeedy (s : State) (n : StationId) : Bool :=
  positions.any fun p => (s.role ⟨n, p⟩).state == .needy

/-- Step 3 of R134: the plan for the next part is present and each position it names has a tool. -/
def State.nextPlanReady (s : State) (n : StationId) : Bool :=
  match (s.station n).plans.candidate with
  | none => false
  | some (plan, _) => s.planTooled n plan

/-- Steps 1 to 4 of R135. -/
def State.startStation (s : State) (n : StationId) : State :=
  let s1 := s.setIntake n { (s.station n).intake with lastNumber := none }
  let s2 := (s1.adoptStation n).setStationState n .ready
  let s3 := if s2.anyNeedy n = true then s2.formOrder n [] else s2.askState n .release
  s3.askDress n (s3.dressDuePositions n)

def State.stationStart (s : State) (p : Payload) : State × Answered :=
  s.withStation p (p.length == 2) fun n =>
    if s.stationState n ≠ .offline then s.refuse .wrongState
    else if s.store.state = .failed then s.refuse .wrongState
    else if s.anyOverdue n = true then s.refuse .wrongState
    else if s.nextPlanReady n = false then s.refuse .notDefined
    else stationDone n (s.startStation n)

/-- STATION_START (R134, R135). -/
def execStationStart (s : State) : Result := s.takeRequest 0x41 fun p s => s.stationStart p

/-- Step 3 of R136: an open order is withdrawn and reported (R164). -/
def State.stopOrder (s : State) (n : StationId) : State :=
  match (s.station n).swap.order with
  | none => s
  | some o => (s.withdrawOrder n o).queueNotice n .swapOrder

/-- Step 6 of R136: the halt ceases, the station is OFFLINE, the dress slot is emptied. -/
def Control.stopped (c : Control) : Control :=
  { c with state := .offline, cause := none, haltTool := none, haltLine := false, dressSlot := none }

/-- Steps 1 to 6 of R136. -/
def State.stopStation (s : State) (n : StationId) : State :=
  let s1 := if (s.station n).intake.part.isSome = true then s.abandonPart n else s
  let s2 := s1.setIntake n { (s1.station n).intake with queue := [] }
  let s3 := s2.stopOrder n
  let s4 := (s3.setSwap n { (s3.station n).swap with window := none }).adoptStation n
  (s4.setControl n (s4.station n).control.stopped).askState n .hold

def State.stationStop (s : State) (p : Payload) : State × Answered :=
  s.withStation p (p.length == 2) fun n =>
    if s.stationState n = .offline then s.refuse .wrongState
    else stationDone n (s.stopStation n)

/-- STATION_STOP (R136). -/
def execStationStop (s : State) : Result := s.takeRequest 0x42 fun p s => s.stationStop p

def State.stationHalt (s : State) (p : Payload) : State × Answered :=
  s.withStation p (p.length == 2) fun n =>
    if s.stationState n = .offline then s.refuse .wrongState
    else stationDone n (s.halt n .cell none)

/-- STATION_HALT (R137). -/
def execStationHalt (s : State) : Result := s.takeRequest 0x43 fun p s => s.stationHalt p

/-- Step 1 of R139: an order is formed for NEEDY roles where none is open; an open window closes to form it. -/
def State.resumeNeeds (s : State) (n : StationId) : State :=
  if (s.station n).swap.order = none ∧ s.anyNeedy n = true then
    match (s.station n).swap.window with
    | some _ => s.closeWindow n
    | none => s.formOrder n []
  else s

/-- The state a HALTED station resumes to (R139 step 2). -/
def Station.resumed (x : Station) : StationState :=
  match x.swap.order.isSome, x.intake.part.isSome with
  | true, true => .stopping
  | true, false => .held
  | false, true => .inPart
  | false, false => .ready

/-- Steps 1 and 2 of R139. -/
def State.resumeStation (s : State) (n : StationId) : State :=
  let s1 := s.resumeNeeds n
  let x := s1.station n
  let s2 := s1.setControl n
    { x.control with state := x.resumed, cause := none, haltTool := none, haltLine := false }
  s2.askState n (if x.swap.order.isSome = true then .hold else .release)

def State.stationResume (s : State) (p : Payload) : State × Answered :=
  s.withStation p (p.length == 2) fun n =>
    if s.stationState n ≠ .halted then s.refuse .wrongState
    else if s.store.state = .failed ∨ s.anyOverdue n = true then s.refuse .wrongState
    else stationDone n (s.resumeStation n)

/-- STATION_RESUME (R139). -/
def execStationResume (s : State) : Result := s.takeRequest 0x44 fun p s => s.stationResume p

def State.stationRead (s : State) (p : Payload) : State × Answered :=
  s.withStation p (p.length == 2) fun n => (s, ⟨.done, stationReadData (s.station n)⟩)

/-- STATION_READ (R140). -/
def execStationRead (s : State) : Result := s.takeRequest 0x45 fun p s => s.stationRead p

end Sys2Proof.Machine
end

