-- ==== Sys2Proof/Machine/SwapRequests.lean ====
section
/-!
DEFINITION. The swap requests (R154 to R160), checked in the order of R154.
-/

namespace Sys2Proof.Machine

/-- Step 3 of R154: the station must have an open order. -/
def State.withOrder (s : State) (n : StationId) (f : Order → State × Answered) : State × Answered :=
  match (s.station n).swap.order with
  | none => s.refuse .noOrder
  | some o => f o

/-- The order of a station takes a new state. -/
def State.setOrderState (s : State) (n : StationId) (o : Order) (x : OrderState) : State :=
  s.setSwap n { (s.station n).swap with order := some { o with state := x } }

/-- The RESERVED entry an order has for a position, with its incoming tool. -/
def Order.reservedAt (o : Order) (p : Pos) : Option ToolId :=
  match o.entries.find? fun e => e.pos == p with
  | some e => if e.state = .reserved then e.incoming else none
  | none => none

/-! ### Swap Done (R155) -/

/-- An entry becomes DONE. -/
def Entry.doneNow (e : Entry) : Entry := { e with state := .done }

/-- One named entry is confirmed: the entry is DONE, the tool STAGED, the role STAGED with it, and both records are
marked (R155). -/
def State.confirm (s : State) (r : RoleId) (t : ToolId) : State :=
  let s1 := s.mapEntries r.station (entriesAt r.pos Entry.doneNow)
  let s2 := s1.putTool t ((s1.tool t).stagedFor r)
  let s3 := (s2.putRole r { (s2.role r).record with staged := some t }).setRoleState r .staged
  (s3.mark (.tool t)).mark (.role r)

/-- The named entries are confirmed in the order named. -/
def State.confirmAll (s : State) (n : StationId) (ps : List (Pos × ToolId)) : State :=
  ps.foldl (fun s x => s.confirm ⟨n, x.1⟩ x.2) s

/-- The positions a Swap Done names, where its count is 1 to 5 and none is out of range or named twice. -/
def namedPositions (p : Payload) : Option (List Pos) :=
  match ((p.drop 3).map fun b => posOf b.toNat).mapM id with
  | none => none
  | some ps => if 1 ≤ ps.length ∧ ps.length ≤ 5 ∧ ps.Nodup then some ps else none

def State.swapDone (s : State) (p : Payload) : State × Answered :=
  s.withStation p (decide (3 ≤ p.length) && p.length == 3 + field p 2 1) fun n =>
    match namedPositions p with
    | none => s.refuse .badValue
    | some ps => s.withOrder n fun o =>
      if o.state = .deferred then s.refuse .deferred
      else match ps.mapM fun q => (o.reservedAt q).map fun t => (q, t) with
        | none => s.refuse .wrongState
        | some named => ((s.confirmAll n named).completeIfDone n, .ok)

/-- SWAP_DONE (R155). -/
def execSwapDone (s : State) : Result := s.takeRequest 0x50 fun p s => s.swapDone p

/-! ### Swap Refused (R156) -/

/-- The entry of a position has a new incoming tool, or waits without one. -/
def Entry.rechosen (t : Option ToolId) (e : Entry) : Entry :=
  { e with incoming := t, state := if t.isSome = true then .reserved else .waiting }

/-- Step 2 of R156: the role asks its pool again; a ride-along entry that gets no tool is dropped, and the
completion test follows the notice. -/
def State.chooseAgain (s : State) (r : RoleId) (reason : Reason) : State :=
  let n := r.station
  let active := match (s.role r).record.current with
    | some c => (s.tool c).state == .active
    | none => false
  if active = true ∧ reason = .rideAlong then
    match s.rideAlongChoice r with
    | (s', some t) => (s'.mapEntries n (entriesAt r.pos (Entry.rechosen (some t)))).queueNotice n .swapOrder
    | (s', none) =>
      (((s'.setRoleState r .running).mapEntries n fun es => es.filter fun e => e.pos != r.pos).queueNotice
        n .swapOrder).completeIfDone n
  else
    match s.waitingChoice r with
    | (s', t) => (s'.mapEntries n (entriesAt r.pos (Entry.rechosen t))).queueNotice n .swapOrder

/-- An accepted Swap Refused (R156): the tool returns PINNED, so it is not offered, and the role asks again. -/
def State.refuseTool (s : State) (r : RoleId) (t : ToolId) (reason : Reason) : State :=
  (s.putTool t ((s.tool t).toStore.withPinned true)).chooseAgain r reason

def State.swapRefused (s : State) (p : Payload) : State × Answered :=
  s.withRole p 3 fun r => s.withOrder r.station fun o =>
    if o.state = .deferred then s.refuse .deferred
    else match o.entries.find? fun e => e.pos == r.pos, o.reservedAt r.pos with
      | some e, some t => (s.refuseTool r t e.reason, .ok)
      | _, _ => s.refuse .wrongState

/-- SWAP_REFUSED (R156). -/
def execSwapRefused (s : State) : Result := s.takeRequest 0x51 fun p s => s.swapRefused p

/-! ### Swap Defer, Swap Resume, Order Read -/

def State.swapDefer (s : State) (p : Payload) : State × Answered :=
  s.withStation p (p.length == 2) fun n => s.withOrder n fun o =>
    if o.state = .deferred then s.refuse .deferred else (s.setOrderState n o .deferred, .ok)

/-- SWAP_DEFER (R158). -/
def execSwapDefer (s : State) : Result := s.takeRequest 0x52 fun p s => s.swapDefer p

def State.swapResume (s : State) (p : Payload) : State × Answered :=
  s.withStation p (p.length == 2) fun n => s.withOrder n fun o =>
    if o.state = .ordered then s.refuse .wrongState
    else ((s.setOrderState n o .ordered).queueNotice n .swapOrder, .ok)

/-- SWAP_RESUME (R159). -/
def execSwapResume (s : State) : Result := s.takeRequest 0x53 fun p s => s.swapResume p

def State.orderRead (s : State) (p : Payload) : State × Answered :=
  s.withStation p (p.length == 2) fun n => (s, ⟨.done, orderReadData s n⟩)

/-- ORDER_READ (R160). -/
def execOrderRead (s : State) : Result := s.takeRequest 0x54 fun p s => s.orderRead p

end Sys2Proof.Machine
end

