-- ==== Sys2Proof/Machine/ToolRequests.lean ====
section
/-!
DEFINITION. The tool requests (R19 to R26) and Tool Release (R97 to R100). Each is checked in the order of
R19 or R97; the first check that fails gives the reply code and nothing changes.
-/

namespace Sys2Proof.Machine

/-- Steps 1 and 2 of R19: the payload length, then the tool number. -/
def State.withTool (s : State) (p : Payload) (len : Nat) (f : ToolId → State × Answered) : State × Answered :=
  if p.length ≠ len then s.refuse .badLength
  else match toolOf (field p 1 1) with
    | none => s.refuse .badValue
    | some t => f t

/-! ### Tool Enter (R20) -/

/-- The record that Tool Enter writes: PINNED is kept, every other flag clear, every account zero. -/
def enteredRecord (old : ToolRecord) (life : Life) (pool : PoolId) (label : List Byte) : ToolRecord :=
  { ToolRecord.vacant with
    state := .stored, life := life, pool := some pool, label := label,
    flags := { noFlags with pinned := old.flags.pinned } }

/-- An accepted Tool Enter. -/
def State.enterTool (s : State) (t : ToolId) (life : Life) (pool : PoolId) (label : List Byte) : State :=
  (((s.putTool t (enteredRecord (s.tool t) life pool label)).setHistory t []).evaluateLife t).offer t

def State.toolEnter (s : State) (p : Payload) : State × Answered :=
  s.withTool p 43 fun t =>
    if (s.tool t).state ≠ .vacant then s.refuse .wrongState
    else match enteredLife p, poolOf (field p 3 1), enteredLabel p with
      | some life, some pool, some label => (s.enterTool t life pool label, .ok)
      | _, _, _ => s.refuse .badValue

/-- TOOL_ENTER (R20). -/
def execToolEnter (s : State) : Result := s.takeRequest 0x10 fun p s => s.toolEnter p

/-! ### Tool Recondition (R21) -/

/-- The record that Tool Recondition writes over that of a wheel with life group `w`. -/
def reconditioned (x : ToolRecord) (w : WheelLife) (dNew dMin : Nat) : ToolRecord :=
  { x with
    state := .stored
    life := .wheel { w with dNew := dNew, dMin := dMin, dNow := dNew }
    recond := satAdd 255 x.recond 1
    acc := { x.acc with wd := 0, partsSinceDress := 0, avg := 0, dressCount := 0 }
    flags := { x.flags with
      final := false, lifeWarn := false, undersize := false, depthClamped := false,
      overdue := false, dressDue := false }
    trip := none }

/-- An accepted Tool Recondition. -/
def State.reconditionTool (s : State) (t : ToolId) (w : WheelLife) (dNew dMin : Nat) : State :=
  (((s.putTool t (reconditioned (s.tool t) w dNew dMin)).setHistory t []).evaluateLife t).offer t

def State.toolRecondition (s : State) (p : Payload) : State × Answered :=
  s.withTool p 10 fun t =>
    let x := s.tool t
    let dNew := field p 2 4
    let dMin := field p 6 4
    if x.state ≠ .retired ∨ x.flags.breakMark = true then s.refuse .wrongState
    else match x.life with
      | .wheel w =>
        if 50000 ≤ dNew ∧ dNew ≤ 1200000 ∧ 40000 ≤ dMin ∧ dMin + 1 ≤ dNew then
          (s.reconditionTool t w dNew dMin, .ok)
        else s.refuse .badValue
      | _ => s.refuse .badValue

/-- TOOL_RECONDITION (R21). -/
def execToolRecondition (s : State) : Result := s.takeRequest 0x11 fun p s => s.toolRecondition p

/-! ### Tool Remove (R22) -/

def State.toolRemove (s : State) (p : Payload) : State × Answered :=
  s.withTool p 2 fun t =>
    match (s.tool t).state with
    | .vacant => s.refuse .notDefined
    | .stored => ((s.putTool t .vacant).setHistory t [], .ok)
    | .retired => ((s.putTool t .vacant).setHistory t [], .ok)
    | _ => s.refuse .inUse

/-- TOOL_REMOVE (R22). -/
def execToolRemove (s : State) : Result := s.takeRequest 0x12 fun p s => s.toolRemove p

/-! ### Tool Adjust (R23) -/

/-- The life group with the settings of a Tool Adjust payload, where those of its kind lie in range. -/
def adjustedLife (p : Payload) (l : Life) : Option Life :=
  let dressLimit := field p 2 2
  let warnDresses := field p 4 2
  let warnWu := field p 6 4
  match l with
  | .absent => none
  | .wheel w =>
    if 1 ≤ dressLimit ∧ dressLimit ≤ 60000 ∧ warnDresses ≤ 10000 then
      some (.wheel { w with dressLimit := dressLimit, warnDresses := warnDresses })
    else none
  | .dresser d => if warnWu ≤ d.lifeBudget then some (.dresser { d with warnWu := warnWu }) else none

def State.toolAdjust (s : State) (p : Payload) : State × Answered :=
  s.withTool p 10 fun t =>
    if (s.tool t).state = .vacant then s.refuse .notDefined
    else match adjustedLife p (s.tool t).life with
      | none => s.refuse .badValue
      | some life => ((s.putTool t { s.tool t with life := life }).evaluateLife t, .ok)

/-- TOOL_ADJUST (R23). -/
def execToolAdjust (s : State) : Result := s.takeRequest 0x13 fun p s => s.toolAdjust p

/-! ### Tool Pin and Tool Unpin (R24) -/

def State.toolPin (s : State) (p : Payload) : State × Answered :=
  s.withTool p 2 fun t => (s.putTool t ((s.tool t).withPinned true), .ok)

/-- TOOL_PIN (R24). -/
def execToolPin (s : State) : Result := s.takeRequest 0x14 fun p s => s.toolPin p

def State.toolUnpin (s : State) (p : Payload) : State × Answered :=
  s.withTool p 2 fun t =>
    let x := s.tool t
    let s' := s.putTool t (x.withPinned false)
    (if x.flags.pinned = true ∧ x.state = .stored then s'.offer t else s', .ok)

/-- TOOL_UNPIN (R24). -/
def execToolUnpin (s : State) : Result := s.takeRequest 0x15 fun p s => s.toolUnpin p

/-! ### Reads (R25, R26) -/

def State.toolRead (s : State) (p : Payload) : State × Answered :=
  s.withTool p 2 fun t => (s, ⟨.done, toolReadData t (s.tool t) (s.history t)⟩)

/-- TOOL_READ (R25). -/
def execToolRead (s : State) : Result := s.takeRequest 0x16 fun p s => s.toolRead p

/-- TOOL_TABLE_READ (R26, R179): a series of 4 frames, or one refusal for its length. -/
def execToolTableRead (s : State) : Result :=
  s.takeFrame (fun k => k == 0x17) fun p s =>
    (s, if p.length ≠ 1 then [replyPayload 0x17 .badLength []] else tableReadFrames s)

/-! ### Tool Release (R97 to R100) -/

/-- The record of a BROKEN current tool after an accepted release: BREAK_MARK cleared, and ACTIVE, or WORN if
it meets the wear-out condition (R13). -/
def ToolRecord.released (x : ToolRecord) : ToolRecord := x.markCleared.inService

/-- R98 step 3: the role's need is withdrawn. It leaves the need list of an open window, or its entry leaves
the open order, which may complete. -/
def State.withdrawNeed (s : State) (r : RoleId) : State :=
  let s1 := (s.setRoleState r .running).leaveWindow r.station r.pos
  match (s1.station r.station).swap.order with
  | none => s1
  | some o =>
    match o.entries.find? fun e => e.pos == r.pos with
    | none => s1
    | some e => s1.withdrawEntry r.station e

/-- R99: an entry of the role takes its new reason and keeps everything else, and the changed order is
reported as R152 reports a reason change (DEDUCED, notes/assumptions/11.md). -/
def State.reasonChanged (s : State) (r : RoleId) : State :=
  match (s.station r.station).swap.order with
  | none => s
  | some o => if o.entries.any (fun e => e.pos == r.pos) then
      (s.refreshReason r.station r.pos).noticeIfOrdered r.station
    else s

/-- An accepted release of a BROKEN tool that is current at a role (R98, R99). -/
def State.releaseBroken (s : State) (t : ToolId) (r : RoleId) : State :=
  let x := (s.tool t).released
  let s1 := (s.putTool t x).setHistory t []
  if x.state = .active then s1.withdrawNeed r else s1.reasonChanged r

/-- The reply to an accepted release: the tool's state and trip_count after the change (R97). -/
def releaseData (x : ToolRecord) : List Byte := le 1 x.state.code ++ le 2 x.acc.tripCount

/-- A release that has passed checks 1 to 5 of R97: the sixth check, then R98 to R100. A tool with BREAK_MARK
that is neither BROKEN nor RETIRED, which R97 says there is none of and start-up can leave, is released as a
RETIRED one is: its mark and its history are cleared and its state is kept (DESIGN CHOICE,
notes/assumptions/12.md). -/
def State.releaseTool (s : State) (t : ToolId) : State × Answered :=
  let x := s.tool t
  if x.state = .broken then
    match x.link with
    | some ⟨r, .current⟩ =>
      if (s.role r).record.current = some t ∧ (s.role r).record.staged = none then
        let s' := s.releaseBroken t r
        (s', ⟨.done, releaseData (s'.tool t)⟩)
      else s.refuse .wrongState
    | _ => s.refuse .wrongState
  else
    let s' := (s.putTool t x.markCleared).setHistory t []
    (s', ⟨.done, releaseData (s'.tool t)⟩)

def State.toolRelease (s : State) (p : Payload) : State × Answered :=
  s.withTool p 4 fun t =>
    let x := s.tool t
    if x.state = .vacant then s.refuse .notDefined
    else if x.flags.breakMark = false then s.refuse .wrongState
    else if field p 2 2 ≠ x.acc.tripCount then s.refuse .stale
    else s.releaseTool t

/-- TOOL_RELEASE (R97). -/
def execToolRelease (s : State) : Result := s.takeRequest 0x18 fun p s => s.toolRelease p

end Sys2Proof.Machine
end

