-- ==== Sys2Proof/Machine/Dispatch.lean ====
section
/-!
DEFINITION. The dispatch: one arm per command, each one direct call of its meaning.
-/

namespace Sys2Proof.Machine

def exec (i : Instr) (s : State) : Host.Outcome State Fault Refusal :=
  match i with
  | .powerUp torn => Sys2Proof.Machine.execPowerUp torn s
  | .powerLoss torn => Sys2Proof.Machine.execPowerLoss torn s
  | .writeHoldEnd => Sys2Proof.Machine.execWriteHoldEnd s
  | .storeWriteComplete result => Sys2Proof.Machine.execStoreWriteComplete result s
  | .linkByte link b => Sys2Proof.Machine.execLinkByte link b s
  | .gap link => Sys2Proof.Machine.execGap link s
  | .stationRecordArrival station payload => Sys2Proof.Machine.execStationRecordArrival station payload s
  | .cellFrameArrival payload => Sys2Proof.Machine.execCellFrameArrival payload s
  | .answerByteSend link => Sys2Proof.Machine.execAnswerByteSend link s
  | .directiveSend station => Sys2Proof.Machine.execDirectiveSend station s
  | .replySend => Sys2Proof.Machine.execReplySend s
  | .noticeSend => Sys2Proof.Machine.execNoticeSend s
  | .linkRateChange link => Sys2Proof.Machine.execLinkRateChange link s
  | .partStart station => Sys2Proof.Machine.execPartStart station s
  | .cut station => Sys2Proof.Machine.execCut station s
  | .dress station => Sys2Proof.Machine.execDress station s
  | .partEnd station => Sys2Proof.Machine.execPartEnd station s
  | .windowTimerExpiry station => Sys2Proof.Machine.execWindowTimerExpiry station s
  | .capDeadlineExpiry station => Sys2Proof.Machine.execCapDeadlineExpiry station s
  | .lapse station => Sys2Proof.Machine.execLapse station s
  | .toolEnter => Sys2Proof.Machine.execToolEnter s
  | .toolRecondition => Sys2Proof.Machine.execToolRecondition s
  | .toolRemove => Sys2Proof.Machine.execToolRemove s
  | .toolAdjust => Sys2Proof.Machine.execToolAdjust s
  | .toolPin => Sys2Proof.Machine.execToolPin s
  | .toolUnpin => Sys2Proof.Machine.execToolUnpin s
  | .toolRead => Sys2Proof.Machine.execToolRead s
  | .toolTableRead => Sys2Proof.Machine.execToolTableRead s
  | .toolRelease => Sys2Proof.Machine.execToolRelease s
  | .planBegin => Sys2Proof.Machine.execPlanBegin s
  | .planSteps => Sys2Proof.Machine.execPlanSteps s
  | .planDrop => Sys2Proof.Machine.execPlanDrop s
  | .planRead => Sys2Proof.Machine.execPlanRead s
  | .roleDefine => Sys2Proof.Machine.execRoleDefine s
  | .roleClear => Sys2Proof.Machine.execRoleClear s
  | .toolMount => Sys2Proof.Machine.execToolMount s
  | .toolUnmount => Sys2Proof.Machine.execToolUnmount s
  | .roleRead => Sys2Proof.Machine.execRoleRead s
  | .poolRead => Sys2Proof.Machine.execPoolRead s
  | .stationConfigure => Sys2Proof.Machine.execStationConfigure s
  | .stationStart => Sys2Proof.Machine.execStationStart s
  | .stationStop => Sys2Proof.Machine.execStationStop s
  | .stationHalt => Sys2Proof.Machine.execStationHalt s
  | .stationResume => Sys2Proof.Machine.execStationResume s
  | .stationRead => Sys2Proof.Machine.execStationRead s
  | .swapDone => Sys2Proof.Machine.execSwapDone s
  | .swapRefused => Sys2Proof.Machine.execSwapRefused s
  | .swapDefer => Sys2Proof.Machine.execSwapDefer s
  | .swapResume => Sys2Proof.Machine.execSwapResume s
  | .orderRead => Sys2Proof.Machine.execOrderRead s
  | .linkRate => Sys2Proof.Machine.execLinkRate s
  | .status => Sys2Proof.Machine.execStatus s
  | .unknownKind => Sys2Proof.Machine.execUnknownKind s

end Sys2Proof.Machine
end

