-- ==== Sys2Proof/Safety.lean ====
section
/-!
DEFINITION. The terms in which claims about the part are stated: a command that answers a next state, what a
command leaves alone, which records await a write, what a command takes, and the invariants that every step
keeps.
-/

namespace Sys2Proof.Machine

/-! ### Answering a next state -/

/-- The command answers a next state, of which `P` holds. -/
def Runs (c : Instr) (s : State) (P : State → Prop) : Prop := ∃ t, exec c s = .next t ∧ P t

/-- The bytes of a frame that its check covers, in the order sent (R166): the length, low byte first, and the payload.
-/
def covered (p : Payload) : List Byte := BitVec.ofNat 8 (p.length % 256) :: BitVec.ofNat 8 (p.length / 256) :: p

/-- The check over bytes, bit by bit (R166): from 0xFFFF, each byte most significant bit first; the register shifts
left, and takes the polynomial 0x1021 where the bit that falls out of it and the bit that enters differ. -/
def frameCheck (bs : List Byte) : BitVec 16 :=
  bs.foldl (fun c b => (List.range 8).foldl (fun r i =>
    if r.msb = b.getMsbD i then r <<< 1 else (r <<< 1) ^^^ 0x1021) c) 0xFFFF

/-- A payload as it goes over a wire with these check bytes (R166): the lead byte, the covered bytes, and the check,
high byte first. -/
def wireBytes (p : Payload) (check : BitVec 16) : List Byte :=
  0xA6 :: (covered p ++ [check.extractLsb' 8 8, check.extractLsb' 0 8])

/-- The bytes come in on a link, one LINK_BYTE each. -/
def feed (l : LinkId) : List Byte → State → Result
  | [], s => .next s
  | b :: bs, s =>
    match exec (.linkByte l b) s with
    | .next t => feed l bs t
    | .fault r => .fault r
    | .refused r => .refused r

/-! ### What a command leaves alone -/

/-- The areas of the state. `marks` is the pending-write set with the scan place and the write in flight;
`health` is the failure counts, the store state and the write hold. -/
inductive Area where
  | power | time | tools | histories | roles | pools | stations | cell | notices | links | copies
  | marks | health | queue
  deriving DecidableEq, Repr

/-- An area is the same in two states. -/
def SameArea (s t : State) : Area → Prop
  | .power => t.powered = s.powered
  | .time => t.timeBase = s.timeBase
  | .tools => t.tools = s.tools
  | .histories => t.histories = s.histories
  | .roles => t.roles = s.roles
  | .pools => t.pools = s.pools
  | .stations => t.stations = s.stations
  | .cell => t.cell = s.cell
  | .notices => t.notices = s.notices
  | .links => t.links = s.links
  | .copies => t.copies = s.copies
  | .marks =>
    t.store.marked = s.store.marked ∧ t.store.scan = s.store.scan ∧ t.store.inFlight = s.store.inFlight
  | .health =>
    t.store.failures = s.store.failures ∧ t.store.state = s.store.state ∧ t.store.hold = s.store.hold
  | .queue => t.pending = s.pending

/-- Every area but those listed is the same. -/
def OnlyChanges (s t : State) (areas : List Area) : Prop := ∀ a, a ∉ areas → SameArea s t a

/-- Every tool record but those listed is the same. -/
def OnlyTools (s t : State) (us : List ToolId) : Prop := ∀ u, u ∉ us → t.tool u = s.tool u

/-- Every verdict history but those listed is the same. -/
def OnlyHistories (s t : State) (us : List ToolId) : Prop := ∀ u, u ∉ us → t.history u = s.history u

/-- Every role but those listed is the same. -/
def OnlyRoles (s t : State) (rs : List RoleId) : Prop := ∀ r, r ∉ rs → t.role r = s.role r

/-- Every station but those listed is the same. -/
def OnlyStations (s t : State) (ns : List StationId) : Prop := ∀ n, n ∉ ns → t.station n = s.station n

/-- Every link but those listed is the same. -/
def OnlyLinks (s t : State) (ls : List LinkId) : Prop := ∀ l, l ∉ ls → t.link l = s.link l

/-- Every waiting queue but those listed is the same. -/
def OnlyPools (s t : State) (ps : List PoolId) : Prop := ∀ p, p ∉ ps → t.pool p = s.pool p

/-- The records in `ids`, and no other, join the pending-write set, from which at most the record whose write
begins leaves again, its write carrying the live content (R187, R188). -/
def MarksOnly (s t : State) (ids : List RecordId) : Prop :=
  ∀ id, (t.store.marked[id.place] = true
      ∨ (s.store.inFlight = none ∧ t.store.inFlight = some (t.liveContent id)))
    ↔ (id ∈ ids ∨ s.store.marked[id.place] = true)

/-- A write begins at once of the first marked record after the scan place, carrying its live content, where the
hold has ended; where it has not, or none is marked, none begins (R188, R196). `marked` is the pending-write set and
`scan` the scan place before it. -/
def WriteBegins (t : State) (marked : Vector Bool 120) (scan : Fin 120) : Prop :=
  (t.store.hold = true ∨ (∀ id : RecordId, marked[id.place] = false) →
    t.store.inFlight = none ∧ t.store.marked = marked ∧ t.store.scan = scan)
  ∧ (t.store.hold = false → ∀ id : RecordId, marked[id.place] = true →
    ∃ first : RecordId, marked[first.place] = true
      ∧ t.store.inFlight = some (t.liveContent first) ∧ t.store.scan = first.place
      ∧ t.store.marked = marked.set first.place false
      ∧ (first.place.val + 119 - scan.val) % 120 ≤ (id.place.val + 119 - scan.val) % 120)

/-- What a power loss or a RESET_N leaves of the stored copies (R190): all of them with no write in flight; else only
the record being written may change, which is left with its earlier content, with the content the write carried, or
failing its check. -/
def CopiesLeft (s t : State) (torn : Torn) : Prop :=
  (s.store.inFlight = none → t.copies = s.copies)
  ∧ (torn = .earlier → t.copies = s.copies)
  ∧ ∀ c, s.store.inFlight = some c →
    (∀ u : ToolId, c.id ≠ .tool u → t.copies.tools[u] = s.copies.tools[u])
    ∧ (∀ r : RoleId, c.id ≠ .role r → t.copies.roles[r.station][r.pos] = s.copies.roles[r.station][r.pos])
    ∧ (∀ n : StationId, c.id ≠ .plan n → t.copies.plans[n] = s.copies.plans[n])
    ∧ (∀ n : StationId, c.id ≠ .settings n → t.copies.settings[n] = s.copies.settings[n])
    ∧ (torn = .carried →
        (∀ u x, c = .tool u x → t.copies.tools[u] = .sound x)
        ∧ (∀ r x, c = .role r x → t.copies.roles[r.station][r.pos] = .sound x)
        ∧ (∀ n x, c = .plan n x → t.copies.plans[n] = .sound x)
        ∧ ∀ n x, c = .settings n x → t.copies.settings[n] = .sound x)
    ∧ ∀ i, torn = .broken i →
        (∀ u x, c = .tool u x → ∃ b, t.copies.tools[u] = .failing b)
        ∧ (∀ r x, c = .role r x → t.copies.roles[r.station][r.pos] = .failing ())
        ∧ (∀ n x, c = .plan n x → t.copies.plans[n] = .failing ())
        ∧ ∀ n x, c = .settings n x → t.copies.settings[n] = .failing ()

/-! ### What a command takes -/

/-- The cell request intake takes the request `p` next: the part has power, `p` is the oldest frame, and the
intake can take one. -/
def TakesRequest (s : State) (p : Payload) (rest : List Payload) : Prop :=
  s.powered = true ∧ s.cell.intake = p :: rest ∧ s.canTake = true

/-- The request has left the intake and its reply is the one frame `r`. -/
def Replied (t : State) (rest : List Payload) (r : Payload) : Prop :=
  t.cell = { intake := rest, reply := some [r] }

/-- A station's intake takes the record `r` next, which arrived at `stamp`. -/
def TakesRecord (s : State) (n : StationId) (r : StationRecord) (stamp : Time) (rest : List QueuedRecord) :
    Prop :=
  s.powered = true ∧ s.stationState n ≠ .offline
    ∧ ∃ number, (s.station n).intake.queue = ⟨number, r, stamp⟩ :: rest

/-- The station's staged slot holds this plan, COMPLETE (R48, R54). -/
def Stages (x : PlanSlots) (plan : Plan) : Prop :=
  ∃ st, x.staged = some st ∧ st.fill = .complete ∧ st.toPlan = some plan

/-- Slots `x` in which `plan` stands staged become `y` by its adoption (R59): the staged slot is emptied and the plan is
active; a STANDING plan replaces the active one, and a ONE_PART plan sets it aside as the return plan. -/
def Adopts (x : PlanSlots) (plan : Plan) (y : PlanSlots) : Prop :=
  (plan.mode = .standing → y = { x with active := some plan, staged := none })
  ∧ (plan.mode = .onePart → y = { active := some plan, staged := none, returned := x.active })

/-- Slots `x` become `y` where a part is closed (R59): a ONE_PART plan gives way to the return plan. -/
def GivesWay (x y : PlanSlots) : Prop :=
  ((∀ old, x.active = some old → old.mode = .standing) → y = x)
  ∧ (∀ old, x.active = some old → old.mode = .onePart → y = { x with active := x.returned, returned := none })

/-- The soft verdicts of a history (R89). -/
def strikeCount (h : List Verdict) : Nat :=
  (h.filter fun v => v == .softHigh || v == .softLow || v == .softDresser || v == .softGauge).length

/-- What a CUT that R60 accepts finds: a part in progress, a plan in use with the step, a pointer before it,
and a current tool at the step's role. -/
def CutAccepted (s : State) (n : StationId) (k : Nat) (part : Part) (plan : Plan) (step : PlanStep)
    (u : ToolId) : Prop :=
  (s.station n).intake.part = some part
    ∧ (s.stationState n = .inPart ∨ s.stationState n = .stopping ∨ s.stationState n = .halted)
    ∧ (s.station n).plans.active = some plan ∧ (s.station n).intake.pointer < k
    ∧ plan.steps[k - 1]? = some step ∧ (s.role ⟨n, step.pos⟩).record.current = some u

/-- A link's transmitter can begin a frame: it sends nothing, no rate change is due and no answer byte waits
(R173). -/
def LinkFree (s : State) (l : LinkId) : Prop :=
  (s.link l).sending = none ∧ s.rateDue l = false ∧ (s.link l).answers = []

/-- HALT, HOLD or RELEASE has been asked of a station between two states (R130): a free link begins it at once and
the state slot is left empty; on any other link it waits in the slot, in place of what waited there. -/
def AskedState (s t : State) (n : StationId) (d : StateDirective) : Prop :=
  let l := stationLink n
  (LinkFree s l →
    t.link l = { s.link l with sending := some ⟨.directive d.payload, 10000 * (d.payload.length + 5)⟩ }
    ∧ (t.station n).control.stateSlot = none)
  ∧ (¬ LinkFree s l → t.link l = s.link l ∧ (t.station n).control.stateSlot = some d)

/-- DRESS has been asked of a station between two states, naming positions (R129, R130, R174): naming none asks
nothing; a free link begins it at once, or the state directive that waits before it; where it is not begun it waits in
the dress slot. -/
def AskedDress (s t : State) (n : StationId) (ps : List Pos) : Prop :=
  let l := stationLink n
  (ps = [] → t.link l = s.link l
    ∧ (t.station n).control.dressSlot = (s.station n).control.dressSlot)
  ∧ (ps ≠ [] → LinkFree s l → (s.station n).control.stateSlot = none →
    t.link l = { s.link l with sending := some ⟨.directive (dressPayload ps), 10000 * (ps.length + 7)⟩ }
    ∧ (t.station n).control.dressSlot = none)
  ∧ (ps ≠ [] → LinkFree s l → ∀ d, (s.station n).control.stateSlot = some d →
    t.link l = { s.link l with sending := some ⟨.directive d.payload, 10000 * (d.payload.length + 5)⟩ }
    ∧ (t.station n).control.stateSlot = none ∧ (t.station n).control.dressSlot = some ps)
  ∧ (ps ≠ [] → ¬ LinkFree s l → t.link l = s.link l ∧ (t.station n).control.dressSlot = some ps)

/-- The wheel positions of a station whose current tool is DRESS_DUE, in ascending order (R80, R129). -/
def DressDue (s : State) (n : StationId) (ps : List Pos) : Prop :=
  ps.Sublist [1, 2, 3, 4]
    ∧ ∀ pos : Pos, pos ∈ ps ↔ pos ≠ 0 ∧ ∃ u, (s.role ⟨n, pos⟩).record.current = some u
        ∧ (s.tool u).flags.dressDue = true

/-- LIFE_WARN of a tool is `warn` after a life evaluation: newly set on the current tool of a role it queues a WARNING
for the role's station, and in every other case no notice (R17, R181). -/
def WarningQueued (s t : State) (u : ToolId) (warn : Bool) : Prop :=
  let newly := warn = true ∧ (s.tool u).flags.lifeWarn = false
  (∀ r, newly → (s.tool u).link = some ⟨r, .current⟩ → t.notices =
    if ⟨r.station, .warning⟩ ∈ s.notices then s.notices else s.notices ++ [⟨r.station, .warning⟩])
  ∧ ((¬ newly ∨ ∀ r, (s.tool u).link ≠ some ⟨r, .current⟩) → t.notices = s.notices)

/-- What is left of a tool's life: the remaining dresses of a wheel (R38), the remaining WU of a dresser (R41), and 0
for a record without a kind. -/
def ToolRecord.lifeLeft (x : ToolRecord) : Nat :=
  match x.life with
  | .absent => 0
  | .wheel w => if w.dNow ≤ w.dMin then 0 else (w.dNow - w.dMin) / ((w.dressStep + 4) / 5)
  | .dresser d => d.lifeBudget - x.acc.wt

/-- The wear-out condition (R13): a wheel is UNDERSIZE, or FINAL with its interval at or past dress_limit; a dresser has
no life left. -/
def ToolRecord.lifeSpent (x : ToolRecord) : Bool :=
  match x.life with
  | .absent => false
  | .wheel w => x.flags.undersize || (x.flags.final && decide (w.dressLimit ≤ x.acc.wd))
  | .dresser _ => x.lifeLeft == 0

/-- The projection of parts remaining of a wheel (R42), and 0 for any other record, which has none. -/
def ToolRecord.partsLeft (x : ToolRecord) : Nat :=
  match x.life with
  | .wheel _ => min 16777215 (x.lifeLeft * x.acc.avg / 16 + (x.acc.avg / 16 - x.acc.partsSinceDress))
  | _ => 0

/-- The tool qualifies for the role (R115). -/
def State.Qualifying (s : State) (r : RoleId) (u : ToolId) : Prop :=
  (s.tool u).kind = some (posKind r.pos) ∧ (s.tool u).pool ≠ none ∧ (s.tool u).pool = (s.role r).record.pool
    ∧ (s.tool u).state = .stored ∧ (s.tool u).flags.pinned = false
    ∧ (s.role r).record.takeoverMin ≤ (s.tool u).lifeLeft

/-- The role is of pool `q` and a tool with the record `x` fits it: its kind and its life (R115). -/
def FitsRole (s : State) (q : PoolId) (x : ToolRecord) (r : RoleId) : Prop :=
  (s.role r).record.pool = some q ∧ x.kind = some (posKind r.pos) ∧ (s.role r).record.takeoverMin ≤ x.lifeLeft

/-- A tool that enters the store with the record `x` is served to no role (R14, R119): it is PINNED, or fits no role
that waits in its pool. -/
def NotServed (s : State) (x : ToolRecord) : Prop :=
  x.flags.pinned = true ∨ ∀ q, x.pool = some q → ∀ r ∈ s.pool q, ¬ FitsRole s q x r

/-- A tool that enters the store with the record `x` goes to the role `r` (R14, R119): it is not PINNED, and `r` is the
oldest role it fits in the waiting queue of its pool `q`, in which `before` are older and `after` are younger. -/
def GoesTo (s : State) (x : ToolRecord) (q : PoolId) (before : List RoleId) (r : RoleId) (after : List RoleId) : Prop :=
  x.flags.pinned = false ∧ x.pool = some q ∧ s.pool q = before ++ r :: after
    ∧ (∀ y ∈ before, ¬ FitsRole s q x y) ∧ FitsRole s q x r ∧ r ∉ after

/-- The tool `u`, stored with the record `x`, has been served to the role `r` between two states (R10, R119, R153): it
is RESERVED for the role, which has left its queue and is RESERVED; the role's entry in the order `order` has taken
the tool, which is reported where the order is ORDERED; the station keeps everything else. -/
def ServedTo (s t : State) (u : ToolId) (x : ToolRecord) (q : PoolId) (before : List RoleId) (r : RoleId)
    (after : List RoleId) : Prop :=
  t.tool u = { x with state := .reserved, link := some ⟨r, .reserved⟩ }
    ∧ t.role r = { s.role r with state := .reserved } ∧ t.pool q = before ++ after
    ∧ (t.station r.station).intake = (s.station r.station).intake
    ∧ (t.station r.station).plans = (s.station r.station).plans
    ∧ (t.station r.station).control = (s.station r.station).control
    ∧ (t.station r.station).swap.window = (s.station r.station).swap.window
    ∧ (∀ o, (s.station r.station).swap.order = some o →
        (t.station r.station).swap.order = some { o with entries := o.entries.map fun e =>
          if e.pos = r.pos then { e with incoming := some u, state := .reserved } else e }
        ∧ (o.state = .ordered → ⟨r.station, .swapOrder⟩ ∈ t.notices)
        ∧ (o.state = .deferred → t.notices = s.notices))
    ∧ ((s.station r.station).swap.order = none →
        (t.station r.station).swap.order = none ∧ t.notices = s.notices)

/-- The roles that an order takes in when it forms with these listed needs, in entry order (R149): the listed needs;
the other NEEDY roles; and the RUNNING roles whose current tool's remaining life is at or below the station's ride-along
setting for its kind, where that is not 0. The last two stand in ascending position. -/
def orderRoles (s : State) (n : StationId) (listed : List Pos) : List Pos :=
  let settings := (s.station n).control.settings
  let setting := fun pos : Pos => if pos = 0 then settings.rideAlongWu else settings.rideAlongDresses
  listed
    ++ (List.finRange 5).filter (fun pos => (s.role ⟨n, pos⟩).state == .needy && !listed.contains pos)
    ++ (List.finRange 5).filter fun pos => (s.role ⟨n, pos⟩).state == .running && setting pos != 0
        && (s.role ⟨n, pos⟩).record.current.any fun u => decide ((s.tool u).lifeLeft ≤ setting pos)

/-- The entries with which an order forms between two states (R142, R149, R150): one for each of its roles, in their
order, but for a ride-along role for which no tool qualified; each with the reason its current tool gives it and with
the tool that was chosen, RESERVED for the role, or WAITING where none qualified. -/
def EntriesFormed (s t : State) (n : StationId) (listed : List Pos) (es : List Entry) : Prop :=
  (es.map fun e => e.pos).Sublist (orderRoles s n listed)
  ∧ (∀ pos ∈ orderRoles s n listed, ∀ u, (s.role ⟨n, pos⟩).record.current = some u → (∃ e ∈ es, e.pos = pos)
      ∨ ((s.tool u).state ≠ .worn ∧ (s.tool u).state ≠ .broken ∧ ∀ v, ¬ t.Qualifying ⟨n, pos⟩ v))
  ∧ ∀ e ∈ es,
    let r : RoleId := ⟨n, e.pos⟩
    (s.role r).record.current = some e.outgoing
    ∧ e.reason = (match (s.tool e.outgoing).state with
        | .broken => .broken
        | .worn => if (s.tool e.outgoing).flags.undersize = true then .undersize else .worn
        | _ => .rideAlong)
    ∧ (e.incoming = none → e.state = .waiting ∧ e.reason ≠ .rideAlong ∧ ∀ v, ¬ t.Qualifying r v)
    ∧ (∀ i, e.incoming = some i → e.state = .reserved ∧ s.Qualifying r i
        ∧ t.tool i = { s.tool i with state := .reserved, link := some ⟨r, .reserved⟩ })
    ∧ ((es.map fun e => e.pos).Nodup →
        t.role r = { s.role r with state := if e.incoming = none then .waiting else .reserved })

/-! ### What start-up reads and settles (R44, R192 to R195) -/

/-- The role record that start-up reads: an UNDEFINED role's where the stored one fails its check. -/
def StoredCopies.roleContent (k : StoredCopies) (r : RoleId) : RoleRecord :=
  match k.roles[r.station][r.pos] with
  | .sound x => x
  | .failing _ => .undefined

/-- The standing plan that start-up reads: none where the stored record fails its check. -/
def StoredCopies.planContent (k : StoredCopies) (n : StationId) : Option Plan :=
  match k.plans[n] with
  | .sound p => p
  | .failing _ => none

/-- The settings that start-up reads: the defaults where the stored record fails its check. -/
def StoredCopies.settingsContent (k : StoredCopies) (n : StationId) : Settings :=
  match k.settings[n] with
  | .sound x => x
  | .failing _ => .default

/-- The trip record that is loaded from a failing image (R93, R192): absent where its cause is no trip cause, else
each value brought to the nearest bound of its range. -/
def TripLoaded (y : RawTrip) (z : Option TripRecord) : Prop :=
  (y.cause < 1 ∨ 4 < y.cause → z = none)
    ∧ (1 ≤ y.cause → y.cause ≤ 4 → ∃ x, z = some x ∧ x.cause.code = y.cause
      ∧ x.role.station.val + 1 = max 1 (min 8 y.station) ∧ x.role.pos.val = min 4 y.pos
      ∧ x.step = y.step.map (fun v => max 1 (min 24 v)) ∧ x.journal = y.journal.map (fun v => max 1 (min 15 v))
      ∧ x.tag = y.tag.map (fun v => min 4294967295 v) ∧ x.peak = y.peak.map (fun v => min 2000 v)
      ∧ x.q = y.q.map (fun v => min 16776960 v) ∧ x.stamp.toNat = min (2 ^ 48 - 1) y.stamp)

/-- The tool record that is loaded from a failing image (R192): RETIRED with STORE_FAULT and no role link, blank
but for these where the identity part fails too, else with each value brought to the nearest bound of its range. -/
def ToolLoaded (b : BadTool) (x : ToolRecord) : Prop :=
  let y := b.raw
  x.state = .retired ∧ x.link = none
    ∧ (b.identity = none →
        x = { ToolRecord.vacant with state := .retired, flags := { noFlags with storeFault := true } })
    ∧ ∀ i, b.identity = some i →
        x.kind = i.kind ∧ x.pool = i.pool ∧ x.label = i.label ∧ x.recond = i.recond
        ∧ x.flags = { y.flags with storeFault := true }
        ∧ x.acc = ⟨min 65535 y.wd, min 4294967295 y.wt, min 4294967295 y.partsTotal, min 65535 y.partsSinceDress,
            min 65535 y.dressCount, min 1048560 y.avg, min 65535 y.tripCount⟩
        ∧ (∀ w, x.life = .wheel w → w.dNew = max 50000 (min 1200000 y.dNew)
            ∧ w.dMin = max 40000 (min (w.dNew - 1) y.dMin) ∧ w.dNow = min w.dNew y.dNow
            ∧ w.dressStep = max 1 (min 5000 y.dressStep) ∧ w.dressLimit = max 1 (min 60000 y.dressLimit)
            ∧ w.warnDresses = min 10000 y.warnDresses)
        ∧ (∀ d, x.life = .dresser d → d.lifeBudget = max 1 (min 1000000000 y.lifeBudget)
            ∧ d.warnWu = min d.lifeBudget y.warnWu)
        ∧ (y.trip = none → x.trip = none) ∧ ∀ z, y.trip = some z → TripLoaded z x.trip

/-- A tool cannot stay at the role its link names (R193 step 2): the role is not defined, or its pool or its
position's kind is not the tool's. -/
def RoleLost (y : RoleRecord) (pos : Pos) (x : ToolRecord) : Prop :=
  y.defined = false ∨ y.pool ≠ x.pool ∨ x.kind ≠ some (posKind pos)

/-- A tool's stored record claims a place of a role (R193 step 3): the current place, or the staged one. -/
def Claims (k : StoredCopies) (r : RoleId) (place : Relation) (u : ToolId) : Prop :=
  ∃ x, k.tools[u] = .sound x ∧ x.link = some ⟨r, place⟩ ∧ ¬ RoleLost (k.roleContent r) r.pos x
    ∧ ((place = .current ∧ (x.state = .active ∨ x.state = .worn ∨ x.state = .broken))
      ∨ (place = .staged ∧ x.state = .reserved))

/-- A tool holds a place that `claims` claim (R193 steps 3 and 4): as its only claimant, as the one of several that
the role record names for it, or, no tool claiming it, as one of several claimants of the other place that the
record names for this place and not for that one. -/
def HoldsPlace (claims others : ToolId → Prop) (named otherNamed : Option ToolId) (u : ToolId) : Prop :=
  (claims u ∧ ((∀ v, claims v → v = u) ∨ named = some u))
    ∨ ((∀ v, ¬ claims v) ∧ others u ∧ (∃ v, others v ∧ v ≠ u) ∧ named = some u ∧ otherNamed ≠ some u)

/-- A tool holds the current place of a role. -/
def HoldsCurrent (k : StoredCopies) (r : RoleId) (u : ToolId) : Prop :=
  HoldsPlace (Claims k r .current) (Claims k r .staged) (k.roleContent r).current (k.roleContent r).staged u

/-- A tool holds the staged place of a role. -/
def HoldsStaged (k : StoredCopies) (r : RoleId) (u : ToolId) : Prop :=
  HoldsPlace (Claims k r .staged) (Claims k r .current) (k.roleContent r).staged (k.roleContent r).current u

/-- What the restart charge leaves of a role's current tool (R44): one that is not ACTIVE takes none. -/
def restartCharged (charge : Nat) (x : ToolRecord) : ToolRecord :=
  if x.state ≠ .active then x
  else
    let wt := min 4294967295 (x.acc.wt + charge)
    match x.life with
    | .absent => x
    | .wheel w =>
      let wd := min 65535 (x.acc.wd + charge)
      let left := if w.dNow ≤ w.dMin then 0 else (w.dNow - w.dMin) / ((w.dressStep + 4) / 5)
      let final := x.flags.final || decide (left = 0)
      { x with
        state := if x.flags.undersize = true ∨ (final = true ∧ w.dressLimit ≤ wd) then .worn else .active
        acc := { x.acc with wd := wd, wt := wt }
        flags := { x.flags with
          unconfirmed := true, final := final
          dressDue := x.flags.dressDue || (!final && decide (w.dressLimit ≤ wd))
          lifeWarn := x.flags.lifeWarn || decide (left ≤ w.warnDresses) } }
    | .dresser d =>
      { x with
        state := if d.lifeBudget ≤ wt then .worn else .active
        acc := { x.acc with wt := wt }
        flags := { x.flags with
          unconfirmed := true, lifeWarn := x.flags.lifeWarn || decide (d.lifeBudget - wt ≤ d.warnWu) } }

/-- What start-up makes of a claimant of a role (R193 to R195), whose stored record is `x`: the holder of the staged
place is adopted, the holder of the current place stays where no tool is staged and is retired where one is, and
every other claimant leaves the role; the one that is current then takes the restart charge. -/
def ClaimantSettled (k : StoredCopies) (r : RoleId) (place : Relation) (u : ToolId) (x t : ToolRecord) : Prop :=
  let charge := (k.settingsContent r.station).restartCharge
  let current : ToolRecord := { x with link := some ⟨r, .current⟩ }
  (HoldsStaged k r u →
      t = restartCharged charge { current with state := if x.lifeSpent = true then .worn else .active })
    ∧ (HoldsCurrent k r u → (∀ v, ¬ HoldsStaged k r v) →
      t = restartCharged charge { current with state := if place = .staged then .active else x.state })
    ∧ (HoldsCurrent k r u → (∃ v, HoldsStaged k r v) → t = { x with state := .retired, link := none })
    ∧ (¬ HoldsCurrent k r u → ¬ HoldsStaged k r u →
      t = if place = .current then { x with state := .retired, link := none }
        else { x with state := .stored, link := none, flags := { x.flags with pinned := true } })

/-! ### What the part reports

The layouts of 09_frames_messages_and_links.md, field by field in the order sent, each field its size in bytes
and its number. -/

/-- The bytes of consecutive fields, each number low byte first (R178). -/
def spell (fs : List (Nat × Nat)) : Payload := fs.flatMap fun f => le f.1 f.2

/-- An optional number whose range excludes 0: 0 when absent (R178). -/
def orZero (size : Nat) (v : Option Nat) : List (Nat × Nat) := [(size, v.getD 0)]

/-- The codes in which enumerated values are sent and read (the value code table of chapter 9). -/
def ValueCodes : Prop :=
  [ToolState.vacant, .stored, .reserved, .active, .worn, .broken, .retired].map ToolState.code = List.range 7
  ∧ [none, some Kind.wheel, some .dresser].map kindCode = List.range 3
  ∧ [Relation.reserved, .staged, .current].map Relation.code = List.range' 1 3
  ∧ [Verdict.clean, .hardOverload, .hardNoContact, .hardDresser, .softHigh, .softLow, .softDresser, .softGauge].map
      Verdict.code = List.range' 1 8
  ∧ [TripCause.overload, .noContact, .strikes, .dresser].map TripCause.code = List.range' 1 4
  ∧ [StationState.offline, .ready, .inPart, .stopping, .held, .halted].map StationState.code = List.range 6
  ∧ [HaltCause.breakage, .overdue, .sequence, .plan, .lapsed, .store, .cell].map HaltCause.code = List.range' 1 7
  ∧ [RoleState.undefined, .empty, .running, .needy, .reserved, .waiting, .staged].map RoleState.code = List.range 7
  ∧ [none, some OrderState.ordered, some .deferred].map orderCode = List.range 3
  ∧ [Reason.worn, .undersize, .broken, .rideAlong].map Reason.code = List.range' 1 4
  ∧ [EntryState.reserved, .waiting, .done].map EntryState.code = List.range' 1 3
  ∧ [StepKind.rough, .finish, .spark].map StepKind.code = List.range' 1 3
  ∧ [PlanMode.standing, .onePart].map PlanMode.code = List.range' 1 2
  ∧ [FillState.filling, .complete].map FillState.code = List.range' 1 2
  ∧ (List.range' 1 3).map gaugeOfCode = [some .good, some .rework, some .scrap]
  ∧ [StoreState.ok, .failed].map StoreState.code = List.range 2
  ∧ [Rate.r19200, .r38400, .r57600, .r115200, .r230400, .r460800].map Rate.code = List.range' 1 6
  ∧ [Rate.r19200, .r38400, .r57600, .r115200, .r230400, .r460800].map Rate.bits
    = [19200, 38400, 57600, 115200, 230400, 460800]

/-- Any other optional number: a presence byte, then the number, 0 when absent (R178). -/
def withPresence (size : Nat) (v : Option Nat) : List (Nat × Nat) := [(1, v.isSome.toNat), (size, v.getD 0)]

/-- A role link: station, position and relation, all 0 when absent. -/
def linkFields : Option RoleLink → List (Nat × Nat)
  | none => [(1, 0), (1, 0), (1, 0)]
  | some l => [(1, l.role.station.val + 1), (1, l.role.pos.val), (1, l.relation.code)]

/-- The ten flags as bits 0 to 9 of one number (value codes). -/
def flagNumber (f : Flags) : Nat :=
  ([f.pinned, f.final, f.dressDue, f.overdue, f.lifeWarn, f.undersize, f.depthClamped, f.breakMark,
    f.unconfirmed, f.storeFault].zipIdx.map fun b => b.1.toNat * 2 ^ b.2).sum

/-- The life groups of both kinds, those of the other kind 0 (R178). -/
def lifeFields : Life → List (Nat × Nat)
  | .absent => [(4, 0), (4, 0), (4, 0), (2, 0), (2, 0), (2, 0), (4, 0), (4, 0)]
  | .wheel w => [(4, w.dNew), (4, w.dMin), (4, w.dNow), (2, w.dressStep), (2, w.dressLimit), (2, w.warnDresses),
      (4, 0), (4, 0)]
  | .dresser d => [(4, 0), (4, 0), (4, 0), (2, 0), (2, 0), (2, 0), (4, d.lifeBudget), (4, d.warnWu)]

/-- A trip record with its presence byte; all 0 when absent. -/
def tripFields : Option TripRecord → List (Nat × Nat)
  | none => List.replicate 25 (1, 0)
  | some x => [(1, 1), (1, x.cause.code), (1, x.role.station.val + 1), (1, x.role.pos.val)] ++ orZero 1 x.step
      ++ orZero 1 x.journal ++ withPresence 4 x.tag ++ withPresence 2 x.peak ++ withPresence 4 x.q
      ++ [(6, x.stamp.toNat)]

/-- The data of Tool Read (R25). -/
def toolFields (s : State) (u : ToolId) : List (Nat × Nat) :=
  let x := s.tool u
  [(1, u.val + 1), (1, x.state.code), (1, kindCode x.kind), (1, (x.pool.map fun q => q.val + 1).getD 0),
      (1, x.recond), (1, x.label.length)]
    ++ ((x.label ++ List.replicate 16 0x20).take 16).map (fun b : Byte => (1, b.toNat))
    ++ linkFields x.link ++ [(2, flagNumber x.flags)] ++ lifeFields x.life
    ++ [(2, x.acc.wd), (4, x.acc.wt), (4, x.acc.partsTotal), (2, x.acc.partsSinceDress), (2, x.acc.dressCount),
      (4, x.acc.avg), (2, x.acc.tripCount), (4, x.lifeLeft), (3, x.partsLeft), (1, (s.history u).length)]
    ++ (s.history u).map (fun v => (1, v.code)) ++ tripFields x.trip

/-- A tool summary (R26), whose flags are 0 for a VACANT record. -/
def summaryFields (s : State) (u : ToolId) : List (Nat × Nat) :=
  let x := s.tool u
  [(1, u.val + 1), (1, x.state.code), (1, kindCode x.kind), (1, (x.pool.map fun q => q.val + 1).getD 0)]
    ++ linkFields x.link
    ++ [(2, if x.state = .vacant then 0 else flagNumber x.flags), (4, x.lifeLeft), (3, x.partsLeft),
      (2, x.acc.wd), (4, x.acc.wt), (2, x.acc.tripCount),
      (4, match x.life with
        | .wheel w => w.dNow
        | _ => 0)]

/-- One step of a plan with whether it is written, 0 in every field where it is not (R63). -/
def stepFields : Option PlanStep → List (Nat × Nat)
  | none => [(1, 0), (1, 0), (1, 0), (1, 0), (2, 0), (2, 0), (2, 0), (2, 0)]
  | some x => [(1, 1), (1, x.pos.val), (1, x.journal), (1, x.kind.code), (2, x.baseCost), (2, x.eExp),
      (2, x.peakHi), (2, x.peakLo)]

/-- The data of Plan Read for one slot (R63): all 0 for an empty slot. -/
def planFields : Option StagedPlan → List (Nat × Nat)
  | none => [(1, 0), (2, 0), (1, 0), (1, 0), (1, 0)]
  | some p => [(1, 1), (2, p.revision), (1, p.mode.code), (1, p.steps.length), (1, p.fill.code)]
      ++ p.steps.flatMap stepFields

/-- The data of Role Read (R113): the settings of both kinds, the wheel's first, those of the other kind 0; the
incoming tool is that of the role's RESERVED entry. -/
def roleFields (s : State) (r : RoleId) : List (Nat × Nat) :=
  let x := (s.role r).record
  let tool := fun u : Option ToolId => (1, (u.map fun v => v.val + 1).getD 0)
  [(1, r.station.val + 1), (1, r.pos.val), (1, if r.pos = 0 then 2 else 1), (1, x.defined.toNat),
      (1, (x.pool.map fun q => q.val + 1).getD 0), (4, x.takeoverMin)]
    ++ (if r.pos = 0 then
        [(1, 0), (2, 0), (2, 0), (2, x.dresserHi), (2, x.dresserLo), (1, x.strikeLimit), (2, x.dressCost)]
      else [(1, x.strikeLimit), (2, x.eLo), (2, x.eHi), (2, 0), (2, 0), (1, 0), (2, 0)])
    ++ [(1, (s.role r).state.code), tool x.current] ++ withPresence 4 (x.current.map fun u => (s.tool u).lifeLeft)
    ++ [tool x.staged,
      tool ((s.station r.station).swap.order.bind fun o =>
        (o.entries.find? fun e => e.pos == r.pos && e.state == .reserved).bind fun e => e.incoming),
      (1, ((x.pool.bind fun q => (s.pool q).idxOf? r).map fun i => i + 1).getD 0)]

/-- A list of tools stands in choice order (R122): least remaining life, then lowest number. -/
def InChoiceOrder (s : State) (us : List ToolId) : Prop :=
  us.Pairwise fun u v => (s.tool u).lifeLeft < (s.tool v).lifeLeft
    ∨ ((s.tool u).lifeLeft = (s.tool v).lifeLeft ∧ u < v)

/-- The data of Pool Read (R122) with a given spare set. -/
def poolFields (s : State) (q : PoolId) (spares : List ToolId) : List (Nat × Nat) :=
  [(1, q.val + 1), (1, spares.length)]
    ++ spares.flatMap (fun u => [(1, u.val + 1), (1, kindCode (s.tool u).kind),
      (1, (s.tool u).flags.pinned.toNat), (4, (s.tool u).lifeLeft)])
    ++ [(1, (s.pool q).length)]
    ++ (s.pool q).flatMap fun r => [(1, r.station.val + 1), (1, r.pos.val), (1, if r.pos = 0 then 2 else 1),
      (4, (s.role r).record.takeoverMin)]

/-- The data of Station Read (R140). -/
def stationFields (x : Station) : List (Nat × Nat) :=
  let k := x.intake.counters
  let set := x.control.settings
  [(1, x.control.state.code), (1, (x.control.cause.map HaltCause.code).getD 0),
      (1, (x.control.haltTool.map fun u => u.val + 1).getD 0), (1, x.control.haltLine.toNat)]
    ++ withPresence 4 (x.intake.part.map fun p => p.tag)
    ++ [(1, x.intake.pointer), (1, k.skipped), (1, x.intake.queue.length)]
    ++ withPresence 1 (x.intake.lastNumber.map fun b => b.toNat)
    ++ [(4, k.good), (4, k.rework), (4, k.scrap), (4, k.abandoned), (2, k.repeats), (2, k.refused), (1, k.skipped),
      (2, set.gatherMs), (4, set.gatherMaxMs), (2, set.orderTimeoutS), (2, set.rideAlongDresses),
      (4, set.rideAlongWu), (2, set.restartCharge), (1, x.swap.window.isSome.toNat),
      (1, orderCode (x.swap.order.map fun o => o.state))]

/-- An order's state, opening stamp and lapse remaining as the SWAP_ORDER notice lays them out; all 0 with no order. -/
def orderHead : Option Order → List (Nat × Nat)
  | none => [(1, 0), (6, 0), (4, 0)]
  | some o => [(1, orderCode (some o.state)), (6, o.opened.toNat), (4, o.lapse)]

/-- An entry's tools, reason and state. -/
def entryFields (e : Entry) : List (Nat × Nat) :=
  [(1, e.outgoing.val + 1), (1, (e.incoming.map fun u => u.val + 1).getD 0), (1, e.reason.code), (1, e.state.code)]

/-- The entries of a station's order, none where it has no order. -/
def entriesOf (s : State) (n : StationId) : List Entry := ((s.station n).swap.order.map fun o => o.entries).getD []

/-- The data of Order Read (R160). -/
def orderFields (s : State) (n : StationId) : List (Nat × Nat) :=
  let o := (s.station n).swap.order
  [(1, orderCode (o.map fun o => o.state))] ++ withPresence 6 (o.map fun o => o.opened.toNat)
    ++ withPresence 4 (o.map fun o => o.lapse) ++ [(1, (entriesOf s n).length)]
    ++ (entriesOf s n).flatMap (fun e => [(1, n.val + 1), (1, e.pos.val)] ++ entryFields e)
    ++ match (s.station n).swap.window with
      | none => [(1, 0), (1, 0), (2, 0), (4, 0)]
      | some w => [(1, 1), (1, w.needs.length)] ++ w.needs.flatMap (fun pos => [(1, n.val + 1), (1, pos.val)])
          ++ [(2, msLeft s.timeBase w.close), (4, msLeft s.timeBase w.cap)]

/-- The data of Status (R185). -/
def statusFields (s : State) : List (Nat × Nat) :=
  [(6, s.timeBase.toNat), (1, s.store.state.code),
      (1, ((List.finRange 120).filter fun i => s.store.marked[i]).length), (1, s.notices.length)]
    ++ (List.finRange 8).map fun n => (1, (s.stationState n).code)

/-- The current tools of a station that have LIFE_WARN set, in ascending position (R183). -/
def warnedTools (s : State) (n : StationId) : List (Pos × ToolId) :=
  (List.finRange 5).filterMap fun pos => (s.role ⟨n, pos⟩).record.current.bind fun u =>
    if (s.tool u).flags.lifeWarn = true then some (pos, u) else none

/-- The payload of a notice (R183). -/
def noticeFields (s : State) (n : StationId) : NoticeKind → List (Nat × Nat)
  | .swapOrder => [(1, 0x90), (1, n.val + 1)] ++ orderHead (s.station n).swap.order ++ [(1, (entriesOf s n).length)]
      ++ (entriesOf s n).flatMap fun e => (1, e.pos.val) :: entryFields e
  | .halt =>
      let c := (s.station n).control
      [(1, 0x91), (1, n.val + 1), (1, c.state.code), (1, (c.cause.map HaltCause.code).getD 0),
          (1, (c.haltTool.map fun u => u.val + 1).getD 0)]
        ++ tripFields (if c.cause = some .breakage then c.haltTool.bind fun u => (s.tool u).trip else none)
  | .warning => [(1, 0x92), (1, n.val + 1), (1, (warnedTools s n).length)]
      ++ (warnedTools s n).flatMap fun x => [(1, x.1.val), (1, x.2.val + 1), (1, kindCode (s.tool x.2).kind),
        (4, (s.tool x.2).lifeLeft), (3, (s.tool x.2).partsLeft)]

/-! ### Invariants -/

/-- Every queue is within its bound (R65, R89, R173, R175, R181, R189). -/
def QueuesBounded (s : State) : Prop :=
  (∀ n, (s.station n).intake.queue.length ≤ 16) ∧ s.cell.intake.length ≤ 4 ∧ s.notices.Nodup
    ∧ (∀ u, (s.history u).length ≤ 4) ∧ (∀ l, (s.link l).answers.length ≤ 488)
    ∧ ∀ id : RecordId, s.store.failures[id.place] ≤ 3

/-- The bytes of a directive that a station link may send (the directive layouts of chapter 9): HALT with a halt cause,
HOLD, RELEASE, and DRESS with 1 to 4 wheel positions in ascending order. -/
def DirectiveBytes (p : Payload) : Prop :=
  (∃ c ∈ List.range' 1 7, p = [0x08, BitVec.ofNat 8 c]) ∨ p = [0x09] ∨ p = [0x0A]
  ∨ ∃ ps : List Pos, ps ≠ [] ∧ ps.Sublist [1, 2, 3, 4]
      ∧ p = 0x0B :: BitVec.ofNat 8 ps.length :: ps.map fun pos => BitVec.ofNat 8 pos.val

/-- Every DRESS that waits names wheel positions in ascending order, and every directive being sent has the bytes of
one (R129, R130, R174). -/
def DirectivesFormed (s : State) : Prop :=
  (∀ n ps, (s.station n).control.dressSlot = some ps → ps ≠ [] ∧ ps.Sublist [1, 2, 3, 4])
  ∧ ∀ l p left, (s.link l).sending = some ⟨.directive p, left⟩ → DirectiveBytes p

/-- The values of a life group lie in the ranges of R4 and R5. -/
def Life.InRange : Life → Prop
  | .absent => True
  | .wheel w =>
    50000 ≤ w.dNew ∧ w.dNew ≤ 1200000 ∧ 40000 ≤ w.dMin ∧ w.dMin + 1 ≤ w.dNew ∧ w.dNow ≤ w.dNew
      ∧ 1 ≤ w.dressStep ∧ w.dressStep ≤ 5000 ∧ 1 ≤ w.dressLimit ∧ w.dressLimit ≤ 60000
      ∧ w.warnDresses ≤ 10000
  | .dresser d => 1 ≤ d.lifeBudget ∧ d.lifeBudget ≤ 1000000000 ∧ d.warnWu ≤ d.lifeBudget

/-- The accounts lie in the ranges of R6. -/
def Accounts.InRange (a : Accounts) : Prop :=
  a.wd ≤ 65535 ∧ a.wt ≤ 4294967295 ∧ a.partsTotal ≤ 4294967295 ∧ a.partsSinceDress ≤ 65535
    ∧ a.dressCount ≤ 65535 ∧ a.avg ≤ 1048560 ∧ a.tripCount ≤ 65535

/-- A tool record's values lie in their ranges (R2, R4 to R6). -/
def ToolRecord.InRange (x : ToolRecord) : Prop :=
  x.life.InRange ∧ x.acc.InRange ∧ x.label.length ≤ 16 ∧ x.recond ≤ 255

/-- A stored tool record's values lie in their ranges, as far as it can be loaded from them. -/
def StoredToolInRange : Stored ToolRecord BadTool → Prop
  | .sound x => x.InRange
  | .failing b => ∀ i, b.identity = some i → i.label.length ≤ 16 ∧ i.recond ≤ 255

/-- Every tool record, live, stored or being written, has its values in their ranges. -/
def ToolsInRange (s : State) : Prop :=
  (∀ u, (s.tool u).InRange) ∧ (∀ u : ToolId, StoredToolInRange s.copies.tools[u])
    ∧ ∀ u x, s.store.inFlight = some (.tool u x) → x.InRange

/-- The three plan slots of a station fit each other and the part in progress (R49, R50). -/
def PlanSlots.Coherent (p : PlanSlots) (inPart : Bool) : Prop :=
  (∀ a, p.active = some a → a.mode = .onePart → inPart = true)
    ∧ (∀ a, p.active = some a → a.mode = .standing → p.returned = none)
    ∧ (p.active = none → p.returned = none)
    ∧ ∀ b, p.returned = some b → b.mode = .standing

/-- A station's items fit its state as the table of R123 has them, its halt line is driven exactly while it is
HALTED (R127), and its window and order are as R141 says. -/
def Station.Coherent (x : Station) : Prop :=
  (x.control.haltLine = true ↔ x.control.state = .halted)
    ∧ (x.control.cause.isSome = true ↔ x.control.state = .halted)
    ∧ (x.control.haltTool.isSome = true → x.control.state = .halted)
    ∧ (x.control.state = .inPart ∨ x.control.state = .stopping → x.intake.part.isSome = true)
    ∧ (x.intake.part.isSome = true →
        x.control.state = .inPart ∨ x.control.state = .stopping ∨ x.control.state = .halted)
    ∧ (x.intake.part = none → x.intake.pointer = 0)
    ∧ (x.control.state = .stopping ∨ x.control.state = .held → x.swap.order.isSome = true)
    ∧ (x.swap.order.isSome = true → x.swap.window = none
        ∧ (x.control.state = .stopping ∨ x.control.state = .held ∨ x.control.state = .halted))
    ∧ (x.control.state = .offline → x.swap.window = none ∧ x.intake.queue = [])
    ∧ (∀ w, x.swap.window = some w → w.needs ≠ [] ∧ w.needs.Nodup)
    ∧ x.plans.Coherent x.intake.part.isSome

/-- Every station is coherent, and every standing plan the store holds or is writing is a STANDING plan. -/
def StationsCoherent (s : State) : Prop :=
  (∀ n, (s.station n).Coherent)
    ∧ (∀ (n : StationId) p, s.copies.plans[n] = .sound (some p) → p.mode = .standing)
    ∧ ∀ n p, s.store.inFlight = some (.plan n (some p)) → p.mode = .standing

/-- The stored copy of a tool, role or settings record is sound and holds the live content (R186); nothing is
said of a plan record. -/
def StoredAsLive (s : State) : RecordId → Prop
  | .tool u => s.copies.tools[u] = .sound (s.tool u)
  | .role r => s.copies.roles[r.station][r.pos] = .sound (s.role r).record
  | .plan _ => True
  | .settings n => s.copies.settings[n] = .sound (s.station n).control.settings

/-- No tool, role or settings record has a stored copy that differs from its live copy unless it is in the
pending-write set or its write is in flight with the live content (R188). -/
def StoreFollows (s : State) : Prop :=
  s.powered = true → ∀ id, (∀ n, id ≠ .plan n) → s.store.marked[id.place] = true
    ∨ s.store.inFlight = some (s.liveContent id)
    ∨ ((∀ c, s.store.inFlight = some c → c.id ≠ id) ∧ StoredAsLive s id)

/-- The standing plan the store holds or is writing for a station is the station's own, unless the record is in the
pending-write set (R50, R188). -/
def PlansFollow (s : State) : Prop :=
  s.powered = true → ∀ n, s.store.marked[(RecordId.plan n).place] = true
    ∨ s.store.inFlight = some (s.liveContent (.plan n))
    ∨ ((∀ c, s.store.inFlight = some c → c.id ≠ .plan n)
      ∧ s.copies.plans[n] = .sound (s.station n).plans.standing)

/-- A role record's fields fit each other: a defined role has a pool, and an undefined one no tool (R105). -/
def RoleRecord.Coherent (x : RoleRecord) : Prop :=
  (x.defined = true → x.pool ≠ none) ∧ (x.defined = false → x.current = none ∧ x.staged = none)

/-- The role records the store holds or is writing are coherent. -/
def StoredRolesCoherent (s : State) : Prop :=
  (∀ (r : RoleId) x, s.copies.roles[r.station][r.pos] = .sound x → x.Coherent)
    ∧ ∀ r x, s.store.inFlight = some (.role r x) → x.Coherent

/-- A role and its tools (R7, R103, R104): its current tool is linked to it as CURRENT and ACTIVE, WORN or BROKEN,
its staged tool as STAGED and RESERVED; a RESERVED or WAITING role has an entry of that state in its station's
order, and a WAITING role waits in the queue of its own pool. -/
def RoleFits (s : State) (r : RoleId) : Prop :=
  (s.role r).record.Coherent
    ∧ (∀ u, (s.role r).record.current = some u → (s.tool u).link = some ⟨r, .current⟩
        ∧ ((s.tool u).state = .active ∨ (s.tool u).state = .worn ∨ (s.tool u).state = .broken))
    ∧ (∀ u, (s.role r).record.staged = some u → (s.tool u).link = some ⟨r, .staged⟩
        ∧ (s.tool u).state = .reserved)
    ∧ ((s.role r).state = .reserved →
        ∃ o e, (s.station r.station).swap.order = some o ∧ e ∈ o.entries ∧ e.pos = r.pos ∧ e.state = .reserved)
    ∧ ((s.role r).state = .waiting →
        (∃ p, (s.role r).record.pool = some p ∧ r ∈ s.pool p)
        ∧ ∃ o e, (s.station r.station).swap.order = some o ∧ e ∈ o.entries ∧ e.pos = r.pos ∧ e.state = .waiting)

/-- An order entry and its role (R104, R141): the outgoing tool is the role's current tool; a RESERVED entry has an
incoming tool that is RESERVED for the role, a WAITING entry has none, and a DONE entry has the staged tool. -/
def EntryFits (s : State) (n : StationId) (e : Entry) : Prop :=
  let x := s.role ⟨n, e.pos⟩
  x.record.defined = true ∧ x.record.current = some e.outgoing
    ∧ (e.state = .reserved → x.state = .reserved ∧ ∃ u, e.incoming = some u ∧ (s.tool u).state = .reserved
        ∧ (s.tool u).link = some ⟨⟨n, e.pos⟩, .reserved⟩)
    ∧ (e.state = .waiting → x.state = .waiting ∧ e.incoming = none)
    ∧ (e.state = .done → x.state = .staged ∧ e.incoming ≠ none ∧ x.record.staged = e.incoming)

/-- The waiting queues, roles, windows and orders fit each other (R104, R118, R141): no role stands twice in a
queue, a queue holds only WAITING roles of its own pool, a window lists only NEEDY roles, and an order has at most
one entry for a role. The role records the store holds or is writing are coherent. -/
def RolesCoherent (s : State) : Prop :=
  (∀ p, (s.pool p).Nodup)
    ∧ (∀ p, ∀ r ∈ s.pool p, (s.role r).state = .waiting ∧ (s.role r).record.pool = some p)
    ∧ (∀ r, RoleFits s r)
    ∧ (∀ n w, (s.station n).swap.window = some w → ∀ pos ∈ w.needs, (s.role ⟨n, pos⟩).state = .needy)
    ∧ (∀ n o, (s.station n).swap.order = some o →
        (o.entries.map fun e => e.pos).Nodup ∧ ∀ e ∈ o.entries, EntryFits s n e)
    ∧ StoredRolesCoherent s

end Sys2Proof.Machine
end

