-- ==== Sys2Proof/WellFormed.lean ====
section
/-!
DEFINITION. Which commands are well formed. The types already keep stations, links and bytes in range;
what is left to check is that an arriving frame has a payload a frame can carry (R166).
-/

namespace Sys2Proof

/-- R166: the payload of a frame is 1 to 480 bytes long. -/
abbrev Payload.fits (p : Payload) : Prop := 1 ≤ p.length ∧ p.length ≤ 480

/-- A command is well formed when each frame it names is one that R166 allows. -/
abbrev Instr.WellFormed (i : Instr) : Prop :=
  match i with
  | .powerUp _ => True
  | .powerLoss _ => True
  | .writeHoldEnd => True
  | .storeWriteComplete _ => True
  | .linkByte _ _ => True
  | .gap _ => True
  | .stationRecordArrival _ payload => Payload.fits payload
  | .cellFrameArrival payload => Payload.fits payload
  | .answerByteSend _ => True
  | .directiveSend _ => True
  | .replySend => True
  | .noticeSend => True
  | .linkRateChange _ => True
  | .partStart _ => True
  | .cut _ => True
  | .dress _ => True
  | .partEnd _ => True
  | .windowTimerExpiry _ => True
  | .capDeadlineExpiry _ => True
  | .lapse _ => True
  | .toolEnter => True
  | .toolRecondition => True
  | .toolRemove => True
  | .toolAdjust => True
  | .toolPin => True
  | .toolUnpin => True
  | .toolRead => True
  | .toolTableRead => True
  | .toolRelease => True
  | .planBegin => True
  | .planSteps => True
  | .planDrop => True
  | .planRead => True
  | .roleDefine => True
  | .roleClear => True
  | .toolMount => True
  | .toolUnmount => True
  | .roleRead => True
  | .poolRead => True
  | .stationConfigure => True
  | .stationStart => True
  | .stationStop => True
  | .stationHalt => True
  | .stationResume => True
  | .stationRead => True
  | .swapDone => True
  | .swapRefused => True
  | .swapDefer => True
  | .swapResume => True
  | .orderRead => True
  | .linkRate => True
  | .status => True
  | .unknownKind => True

end Sys2Proof
end

