-- ==== Sys2Proof/Certificates/Slice0/Obligations.lean ====
section
/-!
DEFINITION. The statements for the provers: what each command of the part does where it has its own effect,
where it is turned away, what it leaves alone, and the invariants that every step keeps.
-/

open Sys2Proof Sys2Proof.Machine

/-! ### The machine -/

/-- Step runs the command at the front of the queue, on the state with the queue's rest. -/
def Obligations.StepRunsFrontCommand : Prop :=
  ∀ (c : Instr) (s : State), step { s with pending := c :: s.pending } = exec c s

/-- With no command waiting a step is a millisecond of the time base, which the lapse timers of ORDERED orders
count (R161, R191). Each transmitter goes on with what it sends at its link's rate, 10 bit times for a byte, and is free
once the last bit has gone (R173, R184); the reply slot empties with the last byte of the reply's last frame (R176,
R180). Without power nothing happens. That a millisecond is a step on the empty queue, and that a transmission ends on
the millisecond of its last bit, is the model's choice (notes/assumptions/2.md, notes/assumptions/5.md). -/
def Obligations.EmptyQueueRunsClock : Prop :=
  ∀ s : State, s.pending = [] →
    ∃ t, step s = .next t ∧ (s.powered = false → t = s)
      ∧ (s.powered = true →
          t.timeBase = s.timeBase + 1
          ∧ OnlyChanges s t [.time, .stations, .cell, .links, .queue]
          ∧ t.cell.intake = s.cell.intake
          ∧ (let bits : Rate → Nat := fun
              | .r19200 => 19200
              | .r38400 => 38400
              | .r57600 => 57600
              | .r115200 => 115200
              | .r230400 => 230400
              | .r460800 => 460800
            (∀ l, t.link l = { s.link l with sending := (t.link l).sending }
              ∧ ((s.link l).sending = none → (t.link l).sending = none)
              ∧ ∀ x, (s.link l).sending = some x →
                (x.left ≤ bits (s.link l).rate → (t.link l).sending = none)
                ∧ (bits (s.link l).rate < x.left →
                  (t.link l).sending = some { x with left := x.left - bits (s.link l).rate }))
            ∧ (∀ p left, (s.link 0).sending = some ⟨.reply p, left⟩ → left ≤ bits (s.link 0).rate →
                t.cell.reply = if s.cell.reply = some [] then none else s.cell.reply)
            ∧ ((∀ p left, (s.link 0).sending = some ⟨.reply p, left⟩ → bits (s.link 0).rate < left) →
                t.cell.reply = s.cell.reply))
          ∧ ∀ n, (t.station n).intake = (s.station n).intake ∧ (t.station n).plans = (s.station n).plans
              ∧ (t.station n).control = (s.station n).control
              ∧ (t.station n).swap.window = (s.station n).swap.window
              ∧ (∀ o, (s.station n).swap.order = some o → o.state = .ordered →
                  (t.station n).swap.order = some { o with lapse := o.lapse - 1 })
              ∧ (∀ o, (s.station n).swap.order = some o → o.state = .deferred →
                  (t.station n).swap.order = some o)
              ∧ ((s.station n).swap.order = none → (t.station n).swap.order = none))

/-- No command touches the queue of the commands that wait. -/
def Obligations.CommandsLeaveQueue : Prop :=
  ∀ (c : Instr) (s t : State), exec c s = .next t → t.pending = s.pending

/-- Every well-formed command answers a next state; the only ill-formed ones are arrivals of a frame that R166
does not allow, and they fault, which is the model's choice (notes/assumptions/3.md). -/
def Obligations.WellFormedCommandsRun : Prop :=
  ∀ (c : Instr) (s : State),
    (c.WellFormed → ∃ t, exec c s = .next t) ∧ (¬ c.WellFormed → exec c s = .fault .noSuchFrame)

/-! ### Links -/

/-- A frame received byte by byte from HUNT is the arrival of its payload; with any other check bytes it asks
BAD_CHECK and goes no further (R166 to R170). The check is R166's, computed bit by bit. That its bytes and the arrival
command are one event is the model's choice (notes/assumptions/3.md). -/
def Obligations.FrameReceivedByteByByte : Prop :=
  ∀ (l : LinkId) (p : Payload) (run : Bool) (s : State), Payload.fits p → s.powered = true →
    (s.link l).framer = .hunt run →
    let check := frameCheck (covered p)
    (l = 0 → feed l (wireBytes p check) s = exec (.cellFrameArrival p) s)
    ∧ (∀ n, l = stationLink n → feed l (wireBytes p check) s = exec (.stationRecordArrival n p) s)
    ∧ ∀ other, other ≠ check → feed l (wireBytes p other) s
        = .next ((s.setFramer l (.hunt false)).askAnswer l .badCheck).beginWrite

/-- R168: a byte in HUNT begins a frame if it is the lead byte; any other asks BAD_LEAD at the first byte of a
run and is discarded within the run. -/
def Obligations.HuntTreatsByte : Prop :=
  ∀ (l : LinkId) (b : Byte) (run : Bool) (s : State), s.powered = true → (s.link l).framer = .hunt run →
    Runs (.linkByte l b) s fun t =>
      OnlyChanges s t [.links, .marks] ∧ OnlyLinks s t [l] ∧ MarksOnly s t []
      ∧ (b = 0xA6 → t.link l = { s.link l with framer := .length none 0xFFFF s.timeBase })
      ∧ (b ≠ 0xA6 → run = true → t.link l = s.link l)
      ∧ (b ≠ 0xA6 → run = false →
          t.link l = ((s.setFramer l (.hunt true)).askAnswer l .badLead).link l
          ∧ (t.link l).framer = .hunt true)

/-- R169: the two length bytes form L, low byte first, and enter the check; L decides the next phase, with
ZERO_LENGTH or TOO_LONG asked at once, and DISCARD skips every byte, a lead byte included. -/
def Obligations.LengthDecidesPhase : Prop :=
  ∀ (l : LinkId) (lo b : Byte) (acc : BitVec 16) (last : Time) (s : State), s.powered = true →
    ((s.link l).framer = .length none acc last →
      Runs (.linkByte l b) s fun t =>
        OnlyChanges s t [.links, .marks] ∧ OnlyLinks s t [l] ∧ MarksOnly s t []
        ∧ t.link l = { s.link l with framer := .length (some b) (crcByte acc b) s.timeBase })
    ∧ (∀ len, (s.link l).framer = .length (some lo) acc last → len = lo.toNat + 256 * b.toNat →
      Runs (.linkByte l b) s fun t =>
        OnlyChanges s t [.links, .marks] ∧ OnlyLinks s t [l] ∧ MarksOnly s t []
        ∧ (len = 0 → t.link l = ((s.setFramer l (.discard 2 s.timeBase)).askAnswer l .zeroLength).link l)
        ∧ (1 ≤ len → len ≤ 480 →
            t.link l = { s.link l with framer := .payload [] len (crcByte acc b) s.timeBase })
        ∧ (481 ≤ len →
            t.link l = ((s.setFramer l (.discard (len + 2) s.timeBase)).askAnswer l .tooLong).link l))
    ∧ ∀ skip, (s.link l).framer = .discard skip last →
      Runs (.linkByte l b) s fun t =>
        OnlyChanges s t [.links, .marks] ∧ OnlyLinks s t [l] ∧ MarksOnly s t []
        ∧ (2 ≤ skip → t.link l = { s.link l with framer := .discard (skip - 1) s.timeBase })
        ∧ (skip ≤ 1 → t.link l = { s.link l with framer := .hunt false })

/-- R171: 25 ms after the last byte GAP ends a frame in progress, with the answer GAP in LENGTH, PAYLOAD and
CHECK and none in DISCARD. That a GAP earlier than that does nothing is the model's choice
(notes/assumptions/1.md). -/
def Obligations.GapEndsFrame : Prop :=
  ∀ (l : LinkId) (last : Time) (s : State), s.powered = true → (s.link l).framer.lastByte = some last →
    Runs (.gap l) s fun t =>
      OnlyChanges s t [.links, .marks] ∧ OnlyLinks s t [l] ∧ MarksOnly s t []
      ∧ ((s.timeBase - last).toNat < 25 → t.link l = s.link l)
      ∧ (25 ≤ (s.timeBase - last).toNat → (∃ k, (s.link l).framer = .discard k last) →
          t.link l = { s.link l with framer := .hunt false })
      ∧ (25 ≤ (s.timeBase - last).toNat → (¬ ∃ k, (s.link l).framer = .discard k last) →
          t.link l = ((s.setFramer l (.hunt false)).askAnswer l .gap).link l
          ∧ (t.link l).framer = .hunt false)

/-- R66, R67: the arrival checks of a station link, in their order, with the answer of each and what it leaves
of the intake. That the framer is left in HUNT is the model's choice (notes/assumptions/3.md). -/
def Obligations.StationArrivalChecks : Prop :=
  ∀ (n : StationId) (p : Payload) (s : State), Payload.fits p → s.powered = true →
    Runs (.stationRecordArrival n p) s fun t =>
      OnlyChanges s t [.stations, .links, .marks] ∧ OnlyStations s t [n] ∧ OnlyLinks s t [stationLink n]
      ∧ MarksOnly s t []
      ∧ ∃ a, t.links = ((s.setFramer (stationLink n) (.hunt false)).askAnswer (stationLink n) a).links
      ∧ let x := s.station n
        if x.control.state = .offline then a = .idle ∧ t.station n = x
        else match parseRecord p with
          | none => a = .taken ∧ t.station n = { x with intake := { x.intake with
              counters := { x.intake.counters with refused := min 65535 (x.intake.counters.refused + 1) } } }
          | some (number, r) =>
            if x.intake.lastNumber = some number then
              a = .taken ∧ t.station n = { x with intake := { x.intake with
                counters := { x.intake.counters with repeats := min 65535 (x.intake.counters.repeats + 1) } } }
            else if 16 ≤ x.intake.queue.length then a = .full ∧ t.station n = x
            else a = .taken ∧ t.station n = { x with intake := { x.intake with
              queue := x.intake.queue ++ [⟨number, r, s.timeBase⟩], lastNumber := some number } }

/-- R64, R66 step 2: the bytes of the four station records, and that every other payload is malformed. -/
def Obligations.RecordLayouts : Prop :=
  (∀ k a b c d e f : Byte, parseRecord [0x01, k, a, b, c, d, e, f]
      = some (k, .partStart
          (a.toNat + 256 * b.toNat + 65536 * c.toNat + 16777216 * d.toNat) (e.toNat + 256 * f.toNat)))
    ∧ (∀ k a b c d e : Byte, parseRecord [0x02, k, a, b, c, d, e]
      = some (k, .cut a.toNat (b.toNat + 256 * c.toNat) (d.toNat + 256 * e.toNat)))
    ∧ (∀ (k b c d e : Byte) (pos : Pos), pos ≠ 0 → parseRecord [0x03, k, BitVec.ofNat 8 pos.val, b, c, d, e]
      = some (k, .dress pos (b.toNat + 256 * c.toNat) (d.toNat + 256 * e.toNat)))
    ∧ (∀ (k a b c d e : Byte) (g : Gauge), gaugeOfCode e.toNat = some g →
      parseRecord [0x04, k, a, b, c, d, e]
      = some (k, .partEnd (a.toNat + 256 * b.toNat + 65536 * c.toNat + 16777216 * d.toNat) g))
    ∧ ∀ p : Payload, parseRecord p = none ↔
        ¬ ((p.headD 0 = 0x01 ∧ p.length = 8) ∨ (p.headD 0 = 0x02 ∧ p.length = 7)
          ∨ (p.headD 0 = 0x03 ∧ p.length = 7 ∧ 1 ≤ field p 2 1 ∧ field p 2 1 ≤ 4)
          ∨ (p.headD 0 = 0x04 ∧ p.length = 7 ∧ 1 ≤ field p 6 1 ∧ field p 6 1 ≤ 3))

/-- R175: a frame on the cell link joins the intake and is answered TAKEN, or finds it full and is dropped. That
the framer is left in HUNT is the model's choice (notes/assumptions/3.md). -/
def Obligations.CellArrivalQueues : Prop :=
  ∀ (p : Payload) (s : State), Payload.fits p → s.powered = true →
    Runs (.cellFrameArrival p) s fun t =>
      OnlyChanges s t [.cell, .links, .marks] ∧ OnlyLinks s t [0] ∧ MarksOnly s t []
      ∧ t.cell.reply = s.cell.reply
      ∧ (s.cell.intake.length < 4 → t.cell.intake = s.cell.intake ++ [p]
          ∧ t.links = ((s.setFramer 0 (.hunt false)).askAnswer 0 .taken).links)
      ∧ (4 ≤ s.cell.intake.length → t.cell.intake = s.cell.intake
          ∧ t.links = ((s.setFramer 0 (.hunt false)).askAnswer 0 .full).links)

/-- R173, R174: a free station link sends its oldest answer byte first, then the state directive, then the
DRESS directive, and each leaves what it waited in: while an answer waits no directive begins. The bytes are those of
R172 and of the directive layouts: an answer goes bare; HALT is its kind and the cause code, HOLD and RELEASE their
kinds, DRESS its kind, the count and the positions; and a frame goes as R166 builds it. -/
def Obligations.StationLinkPrecedence : Prop :=
  (∀ (n : StationId) (s : State), s.powered = true → (s.link (stationLink n)).sending = none →
    s.rateDue (stationLink n) = false →
    let l := stationLink n
    (∀ a rest, (s.link l).answers = a :: rest →
      (Runs (.answerByteSend l) s fun t =>
        OnlyChanges s t [.links, .marks] ∧ OnlyLinks s t [l] ∧ MarksOnly s t []
        ∧ t.link l = { s.link l with answers := rest, sending := some ⟨.answer a, 10000⟩ })
      ∧ Runs (.directiveSend n) s fun t => OnlyChanges s t [.marks] ∧ MarksOnly s t [])
    ∧ ((s.link l).answers = [] →
        (∀ d, (s.station n).control.stateSlot = some d →
          Runs (.directiveSend n) s fun t =>
            OnlyChanges s t [.stations, .links, .marks] ∧ OnlyStations s t [n] ∧ OnlyLinks s t [l] ∧ MarksOnly s t []
            ∧ t.link l = { s.link l with
                sending := some ⟨.directive d.payload, 10000 * (d.payload.length + 5)⟩ }
            ∧ t.station n = { s.station n with control := { (s.station n).control with stateSlot := none } })
        ∧ (∀ ps, (s.station n).control.stateSlot = none → (s.station n).control.dressSlot = some ps →
          Runs (.directiveSend n) s fun t =>
            OnlyChanges s t [.stations, .links, .marks] ∧ OnlyStations s t [n] ∧ OnlyLinks s t [l] ∧ MarksOnly s t []
            ∧ t.link l = { s.link l with
                sending := some ⟨.directive (dressPayload ps), 10000 * (ps.length + 7)⟩ }
            ∧ t.station n
                = { s.station n with control := { (s.station n).control with dressSlot := none } })))
  ∧ [HaltCause.breakage, .overdue, .sequence, .plan, .lapsed, .store, .cell].map
      (fun c => (StateDirective.halt c).payload)
      = [[0x08, 1], [0x08, 2], [0x08, 3], [0x08, 4], [0x08, 5], [0x08, 6], [0x08, 7]]
  ∧ StateDirective.hold.payload = [0x09] ∧ StateDirective.release.payload = [0x0A]
  ∧ (∀ ps : List Pos,
      dressPayload ps = 0x0B :: BitVec.ofNat 8 ps.length :: ps.map fun pos => BitVec.ofNat 8 pos.val)
  ∧ [Answer.taken, .badLead, .badCheck, .zeroLength, .tooLong, .gap, .full, .idle].map
      (fun a => (TxItem.answer a).bytes)
      = [[0x40], [0x41], [0x42], [0x43], [0x44], [0x45], [0x46], [0x47]]
  ∧ ∀ p : Payload, (TxItem.directive p).bytes = wireBytes p (frameCheck (covered p))
      ∧ (TxItem.reply p).bytes = wireBytes p (frameCheck (covered p))
      ∧ (TxItem.notice p).bytes = wireBytes p (frameCheck (covered p))

/-- R130, R173: what is asked of an idle transmitter is begun at once. Asked while something is being sent, an
answer waits at the end of the answer queue, and a state directive or a DRESS replaces the one that waits; a DRESS
that names no position asks nothing. -/
def Obligations.AskedItemsBeginOrWait : Prop :=
  (∀ (l : LinkId) (a : Answer) (s : State),
    OnlyChanges s (s.askAnswer l a) [.links] ∧ OnlyLinks s (s.askAnswer l a) [l]
    ∧ ((s.link l).sending = none → s.rateDue l = false → (s.link l).answers = [] →
        (s.askAnswer l a).link l = { s.link l with sending := some ⟨.answer a, 10000⟩ })
    ∧ (∀ x, (s.link l).sending = some x → (s.link l).answers.length < 488 →
        (s.askAnswer l a).link l = { s.link l with answers := (s.link l).answers ++ [a] }))
  ∧ (∀ (n : StationId) (d : StateDirective) (s : State),
    (∀ x, (s.link (stationLink n)).sending = some x →
      (s.askState n d).links = s.links
      ∧ (s.askState n d).station n
          = { s.station n with control := { (s.station n).control with stateSlot := some d } })
    ∧ ((s.link (stationLink n)).sending = none → s.rateDue (stationLink n) = false →
        (s.link (stationLink n)).answers = [] →
      ((s.askState n d).link (stationLink n)).sending
          = some ⟨.directive d.payload, 10000 * (d.payload.length + 5)⟩
      ∧ (s.askState n d).station n
          = { s.station n with control := { (s.station n).control with stateSlot := none } }))
  ∧ (∀ (n : StationId) (ps : List Pos) (s : State),
    (ps = [] → s.askDress n ps = s)
    ∧ (∀ x, (s.link (stationLink n)).sending = some x → ps ≠ [] →
      (s.askDress n ps).links = s.links
      ∧ (s.askDress n ps).station n
          = { s.station n with control := { (s.station n).control with dressSlot := some ps } })
    ∧ (LinkFree s (stationLink n) → ps ≠ [] → (s.station n).control.stateSlot = none →
      ((s.askDress n ps).link (stationLink n)).sending
          = some ⟨.directive (dressPayload ps), 10000 * (ps.length + 7)⟩
      ∧ (s.askDress n ps).station n
          = { s.station n with control := { (s.station n).control with dressSlot := none } })
    ∧ AskedDress s (s.askDress n ps) n ps)

/-- R173, R180, R182: a free cell link sends its oldest answer byte first, and while one waits no frame begins; with
none waiting it sends the next frame of the reply before any notice, and the oldest notice when no frame of a reply
waits; the notice leaves the queue. -/
def Obligations.CellLinkPrecedence : Prop :=
  ∀ s : State, s.powered = true → (s.link 0).sending = none → s.rateDue 0 = false →
    (∀ a rest, (s.link 0).answers = a :: rest →
      (Runs (.answerByteSend 0) s fun t =>
        OnlyChanges s t [.links, .marks] ∧ OnlyLinks s t [0] ∧ MarksOnly s t []
        ∧ t.link 0 = { s.link 0 with answers := rest, sending := some ⟨.answer a, 10000⟩ })
      ∧ (Runs .replySend s fun t => OnlyChanges s t [.marks] ∧ MarksOnly s t [])
      ∧ Runs .noticeSend s fun t => OnlyChanges s t [.marks] ∧ MarksOnly s t [])
    ∧ ((s.link 0).answers = [] →
      (∀ p rest, s.cell.reply = some (p :: rest) →
        (Runs .replySend s fun t =>
          OnlyChanges s t [.cell, .links, .marks] ∧ OnlyLinks s t [0] ∧ MarksOnly s t []
          ∧ t.cell = { s.cell with reply := some rest }
          ∧ t.link 0 = { s.link 0 with sending := some ⟨.reply p, 10000 * (p.length + 5)⟩ })
        ∧ Runs .noticeSend s fun t => OnlyChanges s t [.marks] ∧ MarksOnly s t [])
      ∧ ∀ x rest, s.notices = x :: rest → s.cell.replyWaits = false →
        Runs .noticeSend s fun t =>
          OnlyChanges s t [.notices, .links, .marks] ∧ OnlyLinks s t [0] ∧ MarksOnly s t []
          ∧ t.notices = rest
          ∧ t.link 0 = { s.link 0 with
              sending := some ⟨.notice (noticePayload s x), 10000 * ((noticePayload s x).length + 5)⟩ })

/-- R184: Link Rate names a link and a rate. The present rate changes nothing; another is set at once on an
idle station link, and waits on link 0 and on a sending link; LINK_RATE_CHANGE then makes it. That the reply to a
request for the present rate carries the link and rate too is the model's reading (notes/assumptions/13.md). -/
def Obligations.LinkRateIsSet : Prop :=
  (∀ (l : LinkId) (r : Rate) (rest : List Payload) (s : State),
    TakesRequest s [0x60, BitVec.ofNat 8 l.val, BitVec.ofNat 8 r.code] rest →
    Runs .linkRate s fun t =>
      OnlyChanges s t [.cell, .links, .marks] ∧ OnlyLinks s t [l] ∧ MarksOnly s t []
      ∧ Replied t rest [0x80, 0x60, 0x00, BitVec.ofNat 8 l.val, BitVec.ofNat 8 r.code]
      ∧ ((s.link l).pendingRate.getD (s.link l).rate = r → t.link l = s.link l)
      ∧ ((s.link l).pendingRate.getD (s.link l).rate ≠ r → l ≠ 0 → (s.link l).sending = none →
          t.link l = { s.link l with rate := r, pendingRate := none, framer := .hunt false })
      ∧ ((s.link l).pendingRate.getD (s.link l).rate ≠ r → (l = 0 ∨ (s.link l).sending ≠ none) →
          t.link l = { s.link l with pendingRate := some r }))
  ∧ ∀ (l : LinkId) (r : Rate) (s : State), s.powered = true → (s.link l).pendingRate = some r →
      (s.link l).sending = none → (l = 0 → s.cell.reply = none) →
      Runs (.linkRateChange l) s fun t =>
        OnlyChanges s t [.links, .marks] ∧ OnlyLinks s t [l] ∧ MarksOnly s t []
        ∧ t.link l = { s.link l with rate := r, pendingRate := none, framer := .hunt false }

/-! ### The record store and start-up -/

/-- R188, R196: at time base 50 the hold ends and a write begins, of the first marked record after the scan
place, with its live content; before 50 no command begins a write. -/
def Obligations.WriteBeginsInScanOrder : Prop :=
  (∀ s : State, s.powered = true → s.store.hold = true → 50 ≤ s.timeBase.toNat → s.store.inFlight = none →
    Runs .writeHoldEnd s fun t =>
      OnlyChanges s t [.marks, .health] ∧ t.store.hold = false
      ∧ t.store.failures = s.store.failures ∧ t.store.state = s.store.state
      ∧ WriteBegins t s.store.marked s.store.scan)
  ∧ ∀ (c : Instr) (s t : State), s.store.hold = true → s.store.inFlight = none → s.timeBase.toNat < 50 →
      exec c s = .next t → t.store.inFlight = none ∧ t.store.hold = true

/-- R188, R189: a write that passes leaves the stored copy sound with the content it carried, its failure count 0 and
the store OK, and the next write begins at once. -/
def Obligations.WritePasses : Prop :=
  ∀ (c : Content) (s : State), s.powered = true → s.store.inFlight = some c →
    Runs (.storeWriteComplete .passes) s fun t =>
      OnlyChanges s t [.copies, .marks, .health]
      ∧ t.store.failures = s.store.failures.set c.id.place 0 ∧ t.store.state = .ok
      ∧ t.store.hold = s.store.hold ∧ WriteBegins t s.store.marked s.store.scan
      ∧ (∀ u x, c = .tool u x → t.copies = { s.copies with tools := s.copies.tools.set u (.sound x) })
      ∧ (∀ r x, c = .role r x → t.copies = { s.copies with
          roles := s.copies.roles.set r.station (s.copies.roles[r.station].set r.pos (.sound x)) })
      ∧ (∀ n x, c = .plan n x → t.copies = { s.copies with plans := s.copies.plans.set n (.sound x) })
      ∧ ∀ n x, c = .settings n x → t.copies = { s.copies with settings := s.copies.settings.set n (.sound x) }

/-- R188, R189, R128: a write that fails leaves the stored copy failing its check and puts the record back in the set,
and the next write begins at once, of this record or of one before it in the scan; the third failure makes an OK store
FAILED and halts every station that is not OFFLINE for STORE, each with a HALT directive and a HALT notice, in
whatever order the notices join the queue. -/
def Obligations.WriteFails : Prop :=
  ∀ (c : Content) (i : TornImage) (s : State), s.powered = true → s.store.inFlight = some c →
    Runs (.storeWriteComplete (.fails i)) s fun t =>
      OnlyChanges s t [.stations, .notices, .links, .copies, .marks, .health]
      ∧ t.store.failures = s.store.failures.set c.id.place (min 3 (s.store.failures[c.id.place] + 1))
      ∧ t.store.hold = s.store.hold
      ∧ WriteBegins t (s.store.marked.set c.id.place true) s.store.scan
      ∧ (∀ u x, c = .tool u x → ∃ b, t.copies.tools[u] = .failing b)
      ∧ (∀ r x, c = .role r x → t.copies.roles[r.station][r.pos] = .failing ())
      ∧ (∀ n x, c = .plan n x → t.copies.plans[n] = .failing ())
      ∧ (∀ n x, c = .settings n x → t.copies.settings[n] = .failing ())
      ∧ (s.store.failures[c.id.place] < 2 ∨ s.store.state = .failed →
          t.store.state = s.store.state ∧ t.stations = s.stations ∧ t.notices = s.notices ∧ t.links = s.links)
      ∧ (2 ≤ s.store.failures[c.id.place] → s.store.state = .ok →
          t.store.state = .failed
          ∧ ∀ n, if s.stationState n = .offline then t.station n = s.station n
              else (t.station n).control.state = .halted ∧ (t.station n).control.cause = some .store
                ∧ (t.station n).control.haltTool = none ∧ (t.station n).control.haltLine = true
                ∧ (t.station n).intake = (s.station n).intake ∧ (t.station n).plans = (s.station n).plans
                ∧ (t.station n).swap = (s.station n).swap ∧ AskedState s t n (.halt .store)
                ∧ ⟨n, .halt⟩ ∈ t.notices)

/-- R190: a power loss loses all but the stored copies, and of these only the record being written may change:
it is left with its earlier content, with the content the write carried, or failing its check. A RESET_N leaves
what a power loss followed by power-up leaves. What the part reads as without power, its time base 0 and its store
as at reset, is the model's choice (notes/assumptions/4.md). -/
def Obligations.PowerLossKeepsCopies : Prop :=
  ∀ (torn : Torn) (s : State),
    Runs (.powerLoss torn) s fun t =>
      t.powered = false ∧ t.timeBase = 0 ∧ t.pending = s.pending ∧ t.store = .atReset
      ∧ (∀ other, exec (.powerUp other) t = exec (.powerUp torn) s)
      ∧ CopiesLeft s t torn

/-- R44, R190 to R195: start-up restores from the stored copies, which are those before it but for the record of a
write in flight. Whatever they hold, after start-up every station is OFFLINE with its stored plan and settings and
nothing queued, held or ordered, every volatile item has its reset value, no role is RESERVED, WAITING or STAGED, at
most WARNING notices wait, and every ACTIVE current tool of a defined role is UNCONFIRMED and marked. A record that
fails its check is loaded as R192 says and marked; a sound tool record without a role link is loaded as stored; a
reservation is returned; a tool whose role is lost leaves it; the claimants of each role are settled and its staged
tool adopted; and the restart charge has the amounts and the evaluation of R44. The order of bounding at loading and
the state of a claimant that changes place are the model's (notes/assumptions/12.md, notes/assumptions/14.md). -/
def Obligations.StartUpLeavesStationsOffline : Prop :=
  (∀ (torn : Torn) (s : State),
    Runs (.powerUp torn) s fun t =>
      t.powered = true ∧ t.timeBase = 0 ∧ t.pending = s.pending ∧ CopiesLeft s t torn
      ∧ t.cell = { intake := [], reply := none }
      ∧ (∀ l, t.link l = .atReset) ∧ (∀ p, t.pool p = []) ∧ (∀ u, t.history u = [])
      ∧ (∀ x ∈ t.notices, x.kind = .warning)
      ∧ (∀ n, t.station n = Station.atReset (t.copies.planContent n) (t.copies.settingsContent n)
          ∧ (t.store.marked[(RecordId.plan n).place] = true ↔ ∃ b, t.copies.plans[n] = .failing b)
          ∧ (t.store.marked[(RecordId.settings n).place] = true ↔ ∃ b, t.copies.settings[n] = .failing b))
      ∧ (∀ r, (t.role r).state = .undefined ∨ (t.role r).state = .empty ∨ (t.role r).state = .running
          ∨ (t.role r).state = .needy)
      ∧ t.store.inFlight = none ∧ t.store.scan.val = 119 ∧ t.store.state = .ok ∧ t.store.hold = true
      ∧ ∀ id : RecordId, t.store.failures[id.place] = 0)
  ∧ (∀ (torn : Torn) (s : State),
    Runs (.powerUp torn) s fun t =>
      ∀ (r : RoleId) (u : ToolId), (t.role r).record.defined = true → (t.role r).record.current = some u →
        (t.tool u).state = .active →
          (t.tool u).flags.unconfirmed = true ∧ t.store.marked[(RecordId.tool u).place] = true)
  ∧ (∀ (torn : Torn) (s : State), StoredRolesCoherent s →
    Runs (.powerUp torn) s fun t =>
      (∀ u b, t.copies.tools[u] = .failing b →
        ToolLoaded b (t.tool u) ∧ t.store.marked[(RecordId.tool u).place] = true)
      ∧ (∀ (u : ToolId) x, t.copies.tools[u] = .sound x →
        (x.link = none → t.tool u = x ∧ t.store.marked[(RecordId.tool u).place] = false)
        ∧ (t.tool u ≠ x → t.store.marked[(RecordId.tool u).place] = true)
        ∧ ∀ r place, x.link = some ⟨r, place⟩ →
          (place = .reserved → x.state = .reserved → t.tool u = { x with state := .stored, link := none })
          ∧ (RoleLost (t.copies.roleContent r) r.pos x →
            (x.state = .active ∨ (x.state = .reserved ∧ place = .staged) →
              t.tool u = { x with state := .stored, link := none, flags := { x.flags with pinned := true } })
            ∧ (x.state = .worn ∨ x.state = .broken → t.tool u = { x with state := .retired, link := none }))
          ∧ (Claims t.copies r place u → ClaimantSettled t.copies r place u x (t.tool u)))
      ∧ ∀ r : RoleId, let x := t.copies.roleContent r
        ((∃ b, t.copies.roles[r.station][r.pos] = .failing b) ∨ (t.role r).record ≠ x →
          t.store.marked[(RecordId.role r).place] = true)
        ∧ (x.defined = false → t.role r = ⟨x, .undefined⟩)
        ∧ (x.defined = true → (t.role r).record = { x with current := (t.role r).record.current, staged := none }
          ∧ (∀ u, (t.role r).record.current = some u ↔ HoldsStaged t.copies r u
              ∨ ((∀ v, ¬ HoldsStaged t.copies r v) ∧ HoldsCurrent t.copies r u))
          ∧ ((t.role r).record.current = none → (t.role r).state = .empty)
          ∧ ∀ u, (t.role r).record.current = some u →
              (t.role r).state = if (t.tool u).state = .active then .running else .needy))

/-- R186, R191: over the copies a part leaves the factory with, start-up gives the reset state, which the model
takes as the state right after reset (notes/assumptions/15.md). -/
def Obligations.FactoryStartUpIsReset : Prop :=
  ∀ (torn : Torn) (s : State), s.copies = .factory → s.store.inFlight = none →
    exec (.powerUp torn) s = .next { State.reset with pending := s.pending }

/-! ### Station records -/

/-- R58, R59, R71, R72: a PART_START at a READY station with no window and no staged tool starts the part on the
active plan, or, where a staged plan is COMPLETE, adopts that: a STANDING plan takes the active slot and its record is
marked, and a ONE_PART plan sets the active one aside; so a station without an active plan first comes to one. The
plan's revision is the one expected or none is, and each position it names has a tool. At an IN_PART station it first
abandons the part in progress (R73): parts_abandoned rises by 1, a ONE_PART plan gives way to the return plan, and the
new part starts on the slots as they then stand. -/
def Obligations.PartStartBeginsPart : Prop :=
  ∀ (n : StationId) (tag expected : Nat) (stamp : Time) (rest : List QueuedRecord) (plan : Plan)
      (base slots : PlanSlots) (s : State),
    TakesRecord s n (.partStart tag expected) stamp rest →
    (s.station n).swap.window = none → (∀ pos, (s.role ⟨n, pos⟩).record.staged = none) →
    (expected = 0 ∨ expected = plan.revision) →
    (∀ x ∈ plan.steps, (s.role ⟨n, x.pos⟩).record.current ≠ none) →
    let x := s.station n
    let Begins := fun (marks : List RecordId) =>
      (s.stationState n = .ready → base = x.plans →
        Runs (.partStart n) s fun t =>
          OnlyChanges s t [.stations, .marks] ∧ OnlyStations s t [n] ∧ MarksOnly s t marks
          ∧ t.station n = { x with
              intake := { x.intake with
                queue := rest, part := some ⟨tag, []⟩, pointer := 0,
                counters := { x.intake.counters with skipped := 0 } }
              plans := slots
              control := { x.control with state := .inPart } })
      ∧ (s.stationState n = .inPart → GivesWay x.plans base →
        Runs (.partStart n) s fun t =>
          OnlyChanges s t [.stations, .marks] ∧ OnlyStations s t [n] ∧ MarksOnly s t marks
          ∧ t.station n = { x with
              intake := { x.intake with
                queue := rest, part := some ⟨tag, []⟩, pointer := 0,
                counters := { x.intake.counters with
                  abandoned := min 4294967295 (x.intake.counters.abandoned + 1), skipped := 0 } }
              plans := slots })
    ((∀ st, x.plans.staged = some st → st.fill = .filling) → base.active = some plan → slots = base → Begins [])
    ∧ (Stages x.plans plan → Adopts base plan slots → Begins (if plan.mode = .standing then [.plan n] else []))

/-- R12, R13, R58, R59, R72, R144, R165: a PART_START that reaches a start adopts the staged tool of a role, here the
only one of the station with a staged tool, and the COMPLETE staged plan, a STANDING plan's record being marked;
without a COMPLETE staged plan the active plan is kept. The outgoing tool is RETIRED, and the staged tool becomes
current with an empty history, ACTIVE, or WORN where it meets the wear-out condition. The need of a WORN one is placed
once the part has started: it opens a gather window, or with gather_ms 0 an order forms, and the station is STOPPING
with HOLD. -/
def Obligations.PartStartAdoptsToolAndPlan : Prop :=
  ∀ (n : StationId) (pos : Pos) (old new : ToolId) (tag expected : Nat) (stamp : Time) (rest : List QueuedRecord)
    (plan : Plan) (slots : PlanSlots) (s : State),
    TakesRecord s n (.partStart tag expected) stamp rest → s.stationState n = .ready →
    (s.station n).swap.window = none →
    (s.role ⟨n, pos⟩).record.staged = some new → (s.role ⟨n, pos⟩).record.current = some old → old ≠ new →
    (s.role ⟨n, pos⟩).record.defined = true →
    (∀ q, q ≠ pos → (s.role ⟨n, q⟩).record.staged = none) →
    let x := s.station n
    let set := x.control.settings
    ((Stages x.plans plan ∧ Adopts x.plans plan slots)
      ∨ ((∀ st, x.plans.staged = some st → st.fill = .filling) ∧ x.plans.active = some plan ∧ slots = x.plans)) →
    (expected = 0 ∨ expected = plan.revision) →
    (∀ x ∈ plan.steps, (s.role ⟨n, x.pos⟩).record.current ≠ none) →
    let record : RoleRecord := { (s.role ⟨n, pos⟩).record with current := some new, staged := none }
    let Starts := fun (t : State) (entered : ToolState) =>
      t.tool old = { s.tool old with state := .retired, link := none }
      ∧ t.tool new = { s.tool new with state := entered, link := some ⟨⟨n, pos⟩, .current⟩ }
      ∧ t.history new = [] ∧ OnlyHistories s t [new] ∧ OnlyStations s t [n]
      ∧ (t.station n).intake = { x.intake with
          queue := rest, part := some ⟨tag, []⟩, pointer := 0, counters := { x.intake.counters with skipped := 0 } }
      ∧ (t.station n).plans = slots
      ∧ (Stages x.plans plan → plan.mode = .standing →
          t.store.marked[(RecordId.plan n).place] = true ∨ t.store.inFlight = some (.plan n (some plan)))
    let Gathers := fun (t : State) (entered : ToolState) (role : RoleState) (window : Option Window) =>
      Starts t entered
      ∧ OnlyChanges s t [.tools, .histories, .roles, .stations, .marks]
      ∧ OnlyTools s t [old, new] ∧ OnlyRoles s t [⟨n, pos⟩] ∧ t.role ⟨n, pos⟩ = ⟨record, role⟩
      ∧ (t.station n).control = { x.control with state := .inPart }
      ∧ (t.station n).swap = { x.swap with window := window }
    ((s.tool new).lifeSpent = false → Runs (.partStart n) s fun t => Gathers t .active .running none)
    ∧ ((s.tool new).lifeSpent = true → x.swap.order = none → 0 < set.gatherMs →
      Runs (.partStart n) s fun t => Gathers t .worn .needy (some ⟨[pos],
        s.timeBase + BitVec.ofNat 48 set.gatherMs, s.timeBase + BitVec.ofNat 48 set.gatherMaxMs⟩))
    ∧ ((s.tool new).lifeSpent = true → x.swap.order = none → set.gatherMs = 0 →
      Runs (.partStart n) s fun t =>
        Starts t .worn
        ∧ OnlyChanges s t [.tools, .histories, .roles, .pools, .stations, .links, .notices, .marks]
        ∧ OnlyLinks s t [stationLink n]
        ∧ (t.role ⟨n, pos⟩).record = record
        ∧ ((t.role ⟨n, pos⟩).state = .reserved ∨ (t.role ⟨n, pos⟩).state = .waiting)
        ∧ t.stationState n = .stopping ∧ AskedState s t n .hold ∧ ⟨n, .swapOrder⟩ ∈ t.notices
        ∧ (t.station n).swap.window = none
        ∧ ∃ o, (t.station n).swap.order = some o ∧ o.state = .ordered ∧ o.opened = s.timeBase
          ∧ o.lapse = 1000 * set.orderTimeoutS
          ∧ ∃ e ∈ o.entries, e.pos = pos ∧ e.outgoing = new
            ∧ e.reason = if (s.tool new).flags.undersize = true then .undersize else .worn)

/-- R58, R71, R73, R147: a PART_START is refused and counted at a HELD or a HALTED station, whose part and plans are
kept, and HOLD, or HALT with the halt cause, is asked again; at a STOPPING station, where the part in progress is
abandoned first and the station becomes HELD; and at a READY or IN_PART station with an open gather window, where a
part in progress is abandoned, the window closes, its order forms and the station becomes HELD. At a READY station
whose plan is missing, of another revision or without a tool it halts the station for PLAN. -/
def Obligations.PartStartRefusals : Prop :=
  ∀ (n : StationId) (tag expected : Nat) (stamp : Time) (rest : List QueuedRecord) (s : State),
    TakesRecord s n (.partStart tag expected) stamp rest →
    let intake := (s.station n).intake
    let refused : Intake := { intake with
      queue := rest, counters := { intake.counters with refused := min 65535 (intake.counters.refused + 1) } }
    let abandoned : Intake := { refused with
      part := none, pointer := 0, counters := { refused.counters with
        abandoned := min 4294967295 (intake.counters.abandoned + 1) } }
    let Closed := fun t : State =>
      ((s.station n).plans.active = none → (t.station n).plans = (s.station n).plans)
      ∧ ∀ a, (s.station n).plans.active = some a →
        (a.mode = .standing → (t.station n).plans = (s.station n).plans)
        ∧ (a.mode = .onePart → (t.station n).plans = { (s.station n).plans with
            active := (s.station n).plans.returned, returned := none })
    (s.stationState n = .held ∨ s.stationState n = .halted →
      Runs (.partStart n) s fun t =>
        OnlyChanges s t [.stations, .links, .marks] ∧ OnlyStations s t [n] ∧ OnlyLinks s t [stationLink n]
        ∧ MarksOnly s t []
        ∧ (t.station n).control = { (s.station n).control with
            stateSlot := (t.station n).control.stateSlot }
        ∧ (t.station n).plans = (s.station n).plans ∧ (t.station n).swap = (s.station n).swap
        ∧ (t.station n).intake = refused
        ∧ (s.stationState n = .held → AskedState s t n .hold)
        ∧ (s.stationState n = .halted → ∀ c, (s.station n).control.cause = some c →
            AskedState s t n (.halt c)))
    ∧ (s.stationState n = .stopping →
      Runs (.partStart n) s fun t =>
        OnlyChanges s t [.stations, .links, .marks] ∧ OnlyStations s t [n] ∧ OnlyLinks s t [stationLink n]
        ∧ MarksOnly s t []
        ∧ (t.station n).control = { (s.station n).control with
            state := .held, stateSlot := (t.station n).control.stateSlot }
        ∧ AskedState s t n .hold ∧ Closed t ∧ (t.station n).swap = (s.station n).swap
        ∧ (t.station n).intake = abandoned)
    ∧ (∀ w, s.stationState n = .ready ∨ s.stationState n = .inPart → (s.station n).swap.window = some w →
      Runs (.partStart n) s fun t =>
        OnlyChanges s t [.tools, .roles, .pools, .stations, .links, .notices, .marks]
        ∧ OnlyStations s t [n] ∧ OnlyLinks s t [stationLink n]
        ∧ (t.station n).swap.window = none
        ∧ (∃ o, (t.station n).swap.order = some o ∧ o.state = .ordered ∧ o.opened = s.timeBase
            ∧ o.lapse = 1000 * (s.station n).control.settings.orderTimeoutS)
        ∧ ⟨n, .swapOrder⟩ ∈ t.notices
        ∧ (t.station n).control = { (s.station n).control with
            state := .held, stateSlot := (t.station n).control.stateSlot }
        ∧ AskedState s t n .hold
        ∧ (s.stationState n = .ready → (t.station n).intake = refused
            ∧ (t.station n).plans = (s.station n).plans)
        ∧ (s.stationState n = .inPart → (t.station n).intake = abandoned ∧ Closed t))
    ∧ (s.stationState n = .ready → (s.station n).swap.window = none →
        (∀ pos, (s.role ⟨n, pos⟩).record.staged = none) →
        ((s.station n).plans.candidate = none
          ∨ ∃ plan b, (s.station n).plans.candidate = some (plan, b)
              ∧ ((expected ≠ 0 ∧ expected ≠ plan.revision)
                ∨ ∃ x ∈ plan.steps, (s.role ⟨n, x.pos⟩).record.current = none)) →
      Runs (.partStart n) s fun t =>
        OnlyChanges s t [.stations, .links, .notices, .marks] ∧ OnlyStations s t [n]
        ∧ OnlyLinks s t [stationLink n]
        ∧ (t.station n).control.state = .halted ∧ (t.station n).control.cause = some .plan
        ∧ (t.station n).control.haltLine = true ∧ ⟨n, .halt⟩ ∈ t.notices
        ∧ AskedState s t n (.halt .plan)
        ∧ (t.station n).plans = (s.station n).plans
        ∧ (t.station n).intake = { (s.station n).intake with queue := rest })

/-- R13, R17, R29 to R33, R60, R76: an accepted CUT moves the pointer, counts the steps it passes over, joins the
step's tool to the part, and adds the charge to the tool's W_d and W_t, each saturating, with UNCONFIRMED cleared; the
tool's other accounts but trip_count, and its life fields, stay. At or past dress_limit a wheel that is not FINAL
becomes DRESS_DUE, and an ACTIVE one that is FINAL becomes WORN and its role is not RUNNING any more. At or past the
overdue threshold it becomes OVERDUE, and the station is HALTED for OVERDUE, naming the wheel, with HALT asked and a
HALT notice queued, unless the verdict of the same cut trips it. LIFE_WARN is set where the warning condition holds,
and a WARNING queued where it is newly set on a current tool. Short of the threshold, with no trip and no wear-out,
the station and its directives stay as they are. -/
def Obligations.CutChargesTool : Prop :=
  ∀ (n : StationId) (k peak energy : Nat) (stamp : Time) (rest : List QueuedRecord) (part : Part)
    (plan : Plan) (step : PlanStep) (u : ToolId) (s : State),
    TakesRecord s n (.cut k peak energy) stamp rest → CutAccepted s n k part plan step u →
    Runs (.cut n) s fun t =>
      let c := (step.baseCost * max 128 (min (energy * 256 / step.eExp) 1024) + 255) / 256
      (t.tool u).acc.wd = min 65535 ((s.tool u).acc.wd + c)
      ∧ (t.tool u).acc.wt = min 4294967295 ((s.tool u).acc.wt + c)
      ∧ (t.tool u).flags.unconfirmed = false
      ∧ (t.tool u).life = (s.tool u).life
      ∧ (t.tool u).acc.partsTotal = (s.tool u).acc.partsTotal
      ∧ (t.tool u).acc.partsSinceDress = (s.tool u).acc.partsSinceDress
      ∧ (t.tool u).acc.dressCount = (s.tool u).acc.dressCount ∧ (t.tool u).acc.avg = (s.tool u).acc.avg
      ∧ (t.station n).intake.queue = rest ∧ (t.station n).intake.pointer = k
      ∧ (t.station n).intake.counters.skipped
          = min 24 ((s.station n).intake.counters.skipped + (k - (s.station n).intake.pointer - 1))
      ∧ (∃ ts, (t.station n).intake.part = some ⟨part.tag, ts⟩
          ∧ ∃ x ∈ ts, x.tool = u ∧ (step.kind = .finish → x.finish = true))
      ∧ (∀ v, v ≠ u → (t.tool v).acc = (s.tool v).acc ∧ (t.tool v).life = (s.tool v).life)
      ∧ OnlyHistories s t [u]
      ∧ ∀ w, (s.tool u).life = .wheel w →
        let x := s.tool u
        let wd := min 65535 (x.acc.wd + c)
        let worn := x.state = .active ∧ (x.flags.undersize = true ∨ (x.flags.final = true ∧ w.dressLimit ≤ wd))
        let overdue := min (2 * w.dressLimit) 65535 ≤ wd
        let warn := decide (x.lifeLeft ≤ w.warnDresses)
        let untripped := (t.tool u).acc.tripCount = x.acc.tripCount
        (t.tool u).flags = { x.flags with
            unconfirmed := false
            dressDue := x.flags.dressDue || (decide (w.dressLimit ≤ wd) && !x.flags.final)
            overdue := x.flags.overdue || decide overdue
            lifeWarn := x.flags.lifeWarn || warn
            breakMark := (t.tool u).flags.breakMark }
        ∧ (untripped → (t.tool u).flags.breakMark = x.flags.breakMark
            ∧ (worn → (t.tool u).state = .worn) ∧ (¬ worn → (t.tool u).state = x.state))
        ∧ (¬ untripped → (t.tool u).flags.breakMark = true
            ∧ (x.state = .active ∨ x.state = .worn → (t.tool u).state = .broken))
        ∧ (worn → x.link = some ⟨⟨n, step.pos⟩, .current⟩ → (t.role ⟨n, step.pos⟩).state ≠ .running)
        ∧ (overdue →
            (t.station n).control.state = .halted ∧ (t.station n).control.haltLine = true ∧ ⟨n, .halt⟩ ∈ t.notices
            ∧ (untripped ∨ x.state = .broken →
              (t.station n).control.cause = some .overdue ∧ (t.station n).control.haltTool = some u
              ∧ (¬ worn → AskedState s t n (.halt .overdue))
              ∧ ((t.station n).control.stateSlot = some (.halt .overdue) ∨ (t.link (stationLink n)).sending
                  = some ⟨.directive (StateDirective.halt .overdue).payload, 70000⟩)))
        ∧ (∀ r, warn = true → x.flags.lifeWarn = false → x.link = some ⟨r, .current⟩ →
            ⟨r.station, .warning⟩ ∈ t.notices)
        ∧ (untripped → ¬ worn → ¬ overdue → (t.station n).control = (s.station n).control
            ∧ (t.station n).swap = (s.station n).swap ∧ t.links = s.links ∧ WarningQueued s t u warn)

/-- R85, R86, R89, R91, R92: the verdict of an accepted CUT, by the order of R85 with every comparison strict,
is pushed at the front of the tool's history of at most 4, and the tool trips exactly when it is hard, or soft
with strike_limit soft verdicts in the history: trip_count then rises by 1 modulo 65,536. -/
def Obligations.CutVerdictAndTrip : Prop :=
  ∀ (n : StationId) (k peak energy : Nat) (stamp : Time) (rest : List QueuedRecord) (part : Part)
    (plan : Plan) (step : PlanStep) (u : ToolId) (s : State),
    TakesRecord s n (.cut k peak energy) stamp rest → CutAccepted s n k part plan step u →
    let role := (s.role ⟨n, step.pos⟩).record
    let q := energy * 256 / step.eExp
    let pk := min peak 2000
    ∀ v : Verdict,
      (pk > step.peakHi → v = .hardOverload) →
      (¬ pk > step.peakHi → step.kind ≠ .spark ∧ pk < step.peakLo → v = .hardNoContact) →
      (¬ pk > step.peakHi → ¬ (step.kind ≠ .spark ∧ pk < step.peakLo) → q > role.eHi → v = .softHigh) →
      (¬ pk > step.peakHi → ¬ (step.kind ≠ .spark ∧ pk < step.peakLo) → ¬ q > role.eHi → q < role.eLo →
        v = .softLow) →
      (¬ pk > step.peakHi → ¬ (step.kind ≠ .spark ∧ pk < step.peakLo) → ¬ q > role.eHi → ¬ q < role.eLo →
        v = .clean) →
      Runs (.cut n) s fun t =>
        t.history u = (v :: s.history u).take 4
        ∧ (t.tool u).acc.tripCount =
            if (v = .hardOverload ∨ v = .hardNoContact)
                ∨ ((v = .softHigh ∨ v = .softLow)
                  ∧ role.strikeLimit ≤ strikeCount ((v :: s.history u).take 4)) then
              ((s.tool u).acc.tripCount + 1) % 65536
            else (s.tool u).acc.tripCount

/-- R92 to R94, R125 to R127: a first trip by an overload leaves the tool BROKEN with BREAK_MARK and a trip
record of the cut, and the station HALTED for BREAKAGE, naming the tool, with its line driven and a HALT notice
queued; the part stays in progress and the role is no longer RUNNING. Where the role was RUNNING or NEEDY and no
order was open, an order is then open and no gather window is (R143, R147). -/
def Obligations.OverloadBreaksToolAndHalts : Prop :=
  ∀ (n : StationId) (k peak energy : Nat) (stamp : Time) (rest : List QueuedRecord) (part : Part)
    (plan : Plan) (step : PlanStep) (u : ToolId) (s : State),
    TakesRecord s n (.cut k peak energy) stamp rest → CutAccepted s n k part plan step u →
    step.peakHi < min peak 2000 → ((s.tool u).state = .active ∨ (s.tool u).state = .worn) →
    Runs (.cut n) s fun t =>
      (t.tool u).state = .broken ∧ (t.tool u).flags.breakMark = true
      ∧ (t.tool u).trip = some
          { cause := .overload, role := ⟨n, step.pos⟩, step := some k, journal := some step.journal,
            tag := some part.tag, peak := some (min peak 2000), q := some (energy * 256 / step.eExp),
            stamp := stamp }
      ∧ (t.station n).control.state = .halted ∧ (t.station n).control.cause = some .breakage
      ∧ (t.station n).control.haltTool = some u ∧ (t.station n).control.haltLine = true
      ∧ ⟨n, .halt⟩ ∈ t.notices
      ∧ (∃ ts, (t.station n).intake.part = some ⟨part.tag, ts⟩)
      ∧ (t.role ⟨n, step.pos⟩).state ≠ .running
      ∧ ((s.role ⟨n, step.pos⟩).state = .running ∨ (s.role ⟨n, step.pos⟩).state = .needy →
          (s.station n).swap.order = none →
          (t.station n).swap.window = none ∧ (∃ o, (t.station n).swap.order = some o ∧ o.state = .ordered)
          ∧ ⟨n, .swapOrder⟩ ∈ t.notices)

/-- R95: an overload of a tool already BROKEN moves trip_count and replaces the trip record, and hands nothing
on: no station state, role, order, window, directive or notice changes. -/
def Obligations.RepeatTripHandsNothingOn : Prop :=
  ∀ (n : StationId) (k peak energy : Nat) (stamp : Time) (rest : List QueuedRecord) (part : Part)
    (plan : Plan) (step : PlanStep) (u : ToolId) (w : WheelLife) (s : State),
    TakesRecord s n (.cut k peak energy) stamp rest → CutAccepted s n k part plan step u →
    step.peakHi < min peak 2000 → (s.tool u).state = .broken →
    (s.tool u).life = .wheel w →
    min 65535 ((s.tool u).acc.wd
        + (step.baseCost * max 128 (min (energy * 256 / step.eExp) 1024) + 255) / 256)
      < min (2 * w.dressLimit) 65535 →
    (w.warnDresses < (s.tool u).lifeLeft ∨ (s.tool u).flags.lifeWarn = true) →
    Runs (.cut n) s fun t =>
      OnlyChanges s t [.tools, .histories, .stations, .marks] ∧ OnlyTools s t [u] ∧ OnlyHistories s t [u]
      ∧ OnlyStations s t [n] ∧ MarksOnly s t [.tool u]
      ∧ (t.tool u).state = .broken ∧ (t.tool u).acc.tripCount = ((s.tool u).acc.tripCount + 1) % 65536
      ∧ (t.tool u).trip = some
          { cause := .overload, role := ⟨n, step.pos⟩, step := some k, journal := some step.journal,
            tag := some part.tag, peak := some (min peak 2000), q := some (energy * 256 / step.eExp),
            stamp := stamp }
      ∧ (t.station n).control = (s.station n).control ∧ (t.station n).swap = (s.station n).swap
      ∧ (t.station n).plans = (s.station n).plans

/-- R32, R33, R45: the frame of an accepted CUT that is judged CLEAN and raises nothing more than DRESS_DUE:
one tool record, one history and one intake change, and the tool's record alone is marked. -/
def Obligations.CleanCutFrame : Prop :=
  ∀ (n : StationId) (k peak energy : Nat) (stamp : Time) (rest : List QueuedRecord) (part : Part)
    (plan : Plan) (step : PlanStep) (u : ToolId) (w : WheelLife) (s : State),
    TakesRecord s n (.cut k peak energy) stamp rest → CutAccepted s n k part plan step u →
    (s.tool u).life = .wheel w → (s.tool u).state = .active → (s.tool u).flags.final = false →
    (s.tool u).flags.undersize = false → w.warnDresses < (s.tool u).lifeLeft →
    let q := energy * 256 / step.eExp
    let wd := min 65535 ((s.tool u).acc.wd + (step.baseCost * max 128 (min q 1024) + 255) / 256)
    wd < min (2 * w.dressLimit) 65535 →
    min peak 2000 ≤ step.peakHi → (step.kind = .spark ∨ step.peakLo ≤ min peak 2000) →
    q ≤ (s.role ⟨n, step.pos⟩).record.eHi → (s.role ⟨n, step.pos⟩).record.eLo ≤ q →
    Runs (.cut n) s fun t =>
      OnlyChanges s t [.tools, .histories, .stations, .marks] ∧ OnlyTools s t [u] ∧ OnlyHistories s t [u]
      ∧ OnlyStations s t [n] ∧ MarksOnly s t (if t.tool u = s.tool u then [] else [.tool u])
      ∧ (t.tool u).state = .active
      ∧ (t.tool u).flags = { (s.tool u).flags with
          unconfirmed := false, dressDue := (s.tool u).flags.dressDue || decide (w.dressLimit ≤ wd) }
      ∧ (t.tool u).link = (s.tool u).link ∧ (t.tool u).pool = (s.tool u).pool
      ∧ (t.tool u).label = (s.tool u).label ∧ (t.tool u).recond = (s.tool u).recond
      ∧ (t.tool u).trip = (s.tool u).trip ∧ (t.tool u).acc.tripCount = (s.tool u).acc.tripCount
      ∧ (t.station n).control = (s.station n).control ∧ (t.station n).swap = (s.station n).swap
      ∧ (t.station n).plans = (s.station n).plans

/-- R60, R75, R77, R78: a DRESS of a position with no role or no tool, and a PART_END with no part in progress,
are refused and counted. A PART_END with another tag, and a CUT with no part in progress or of a step that is
0, not after the pointer or past the plan, halt the station for SEQUENCE and have no other effect. -/
def Obligations.RecordsTurnedAway : Prop :=
  (∀ (n : StationId) (stamp : Time) (rest : List QueuedRecord) (s : State),
    let refused : Station := { s.station n with
      intake := { (s.station n).intake with
        queue := rest
        counters := { (s.station n).intake.counters with
          refused := min 65535 ((s.station n).intake.counters.refused + 1) } } }
    (∀ pos r peak, TakesRecord s n (.dress pos r peak) stamp rest →
        (s.role ⟨n, pos⟩).record.defined = false ∨ (s.role ⟨n, pos⟩).record.current = none →
        Runs (.dress n) s fun t =>
          OnlyChanges s t [.stations, .marks] ∧ OnlyStations s t [n] ∧ MarksOnly s t []
          ∧ t.station n = refused)
    ∧ (∀ tag g, TakesRecord s n (.partEnd tag g) stamp rest → (s.station n).intake.part = none →
        Runs (.partEnd n) s fun t =>
          OnlyChanges s t [.stations, .marks] ∧ OnlyStations s t [n] ∧ MarksOnly s t []
          ∧ t.station n = refused)
    ∧ ∀ tag g part, TakesRecord s n (.partEnd tag g) stamp rest → (s.station n).intake.part = some part →
        part.tag ≠ tag →
        Runs (.partEnd n) s fun t =>
          OnlyChanges s t [.stations, .links, .notices, .marks] ∧ OnlyStations s t [n]
          ∧ OnlyLinks s t [stationLink n] ∧ MarksOnly s t []
          ∧ (t.station n).intake = { (s.station n).intake with queue := rest }
          ∧ (t.station n).plans = (s.station n).plans ∧ (t.station n).swap = (s.station n).swap
          ∧ (t.station n).control.state = .halted ∧ (t.station n).control.cause = some .sequence
          ∧ (t.station n).control.haltTool = none ∧ (t.station n).control.haltLine = true
          ∧ (t.station n).control.settings = (s.station n).control.settings
          ∧ (t.station n).control.dressSlot = (s.station n).control.dressSlot
          ∧ AskedState s t n (.halt .sequence)
          ∧ t.notices = if ⟨n, .halt⟩ ∈ s.notices then s.notices else s.notices ++ [⟨n, .halt⟩])
  ∧ (∀ (n : StationId) (k peak energy : Nat) (stamp : Time) (rest : List QueuedRecord) (s : State),
    TakesRecord s n (.cut k peak energy) stamp rest →
    ((s.station n).intake.part = none
      ∨ k ≤ (s.station n).intake.pointer
      ∨ (∃ plan, (s.station n).plans.active = some plan ∧ plan.steps.length < k)) →
    Runs (.cut n) s fun t =>
      OnlyChanges s t [.stations, .links, .notices, .marks] ∧ OnlyStations s t [n]
      ∧ OnlyLinks s t [stationLink n] ∧ MarksOnly s t []
      ∧ (t.station n).intake = { (s.station n).intake with queue := rest }
      ∧ (t.station n).plans = (s.station n).plans ∧ (t.station n).swap = (s.station n).swap
      ∧ (t.station n).control.state = .halted ∧ (t.station n).control.cause = some .sequence
      ∧ (t.station n).control.haltTool = none ∧ (t.station n).control.haltLine = true
      ∧ (t.station n).control.settings = (s.station n).control.settings
      ∧ (t.station n).control.dressSlot = (s.station n).control.dressSlot
      ∧ AskedState s t n (.halt .sequence)
      ∧ t.notices = if ⟨n, .halt⟩ ∈ s.notices then s.notices else s.notices ++ [⟨n, .halt⟩])

/-- R17, R34 to R37, R39, R77: an accepted DRESS takes the loss of the effective depth off D_now, updates the
average, empties the interval, counts the dress and clears DRESS_DUE and OVERDUE; UNDERSIZE, FINAL and LIFE_WARN follow
from the new D_now, and an ACTIVE wheel becomes WORN exactly when it is UNDERSIZE. Where LIFE_WARN is newly set on a
current tool a WARNING for its station is queued; where the wheel does not become WORN and there is no dresser, that is
the only notice. -/
def Obligations.DressCutsDiameter : Prop :=
  ∀ (n : StationId) (pos : Pos) (r peak : Nat) (stamp : Time) (rest : List QueuedRecord) (u : ToolId)
    (w : WheelLife) (s : State),
    TakesRecord s n (.dress pos r peak) stamp rest → (s.role ⟨n, pos⟩).record.defined = true →
    (s.role ⟨n, pos⟩).record.current = some u → (s.role ⟨n, 0⟩).record.current ≠ some u →
    (s.tool u).life = .wheel w → 1 ≤ w.dressLimit →
    Runs (.dress n) s fun t =>
      let depth := if r = 0 then w.dressStep else min r 5000
      let dNow := w.dNow - (depth + 4) / 5
      let undersize := (s.tool u).flags.undersize || decide (dNow < w.dMin)
      let left := if dNow ≤ w.dMin then 0 else (dNow - w.dMin) / ((w.dressStep + 4) / 5)
      (t.tool u).life = .wheel { w with dNow := dNow }
      ∧ (t.tool u).acc = { (s.tool u).acc with
          wd := 0
          partsSinceDress := 0
          dressCount := min 65535 ((s.tool u).acc.dressCount + 1)
          avg := if (s.tool u).acc.dressCount = 0 then 16 * (s.tool u).acc.partsSinceDress
            else (7 * (s.tool u).acc.avg + 16 * (s.tool u).acc.partsSinceDress) / 8 }
      ∧ (t.tool u).flags.dressDue = false ∧ (t.tool u).flags.overdue = false
      ∧ (t.tool u).flags.depthClamped = ((s.tool u).flags.depthClamped || decide (5000 < r))
      ∧ (t.tool u).flags.undersize = undersize
      ∧ (t.tool u).flags.final = ((s.tool u).flags.final || decide (left = 0))
      ∧ (t.tool u).flags.lifeWarn = ((s.tool u).flags.lifeWarn || decide (left ≤ w.warnDresses))
      ∧ (∀ r', left ≤ w.warnDresses → (s.tool u).flags.lifeWarn = false → (s.tool u).link = some ⟨r', .current⟩ →
          ⟨r'.station, .warning⟩ ∈ t.notices)
      ∧ ((s.role ⟨n, 0⟩).record.current = none → (s.tool u).state ≠ .active ∨ undersize = false →
          WarningQueued s t u (decide (left ≤ w.warnDresses)))
      ∧ ((s.tool u).state = .active → (t.tool u).state = if undersize = true then .worn else .active)
      ∧ (t.station n).intake.part = (s.station n).intake.part
      ∧ (t.station n).intake.pointer = (s.station n).intake.pointer
      ∧ (t.station n).intake.queue = rest

/-- R17, R40, R41, R87: the dresser at position 0 takes the dresser charge of the dress and one verdict by the
order of R87, and becomes WORN when no life is left to it. LIFE_WARN is set where no more than warn_wu is left, and a
WARNING queued where it is newly set on a current tool; DRESS_DUE, FINAL, UNDERSIZE and OVERDUE stay. -/
def Obligations.DressChargesDresser : Prop :=
  ∀ (n : StationId) (pos : Pos) (r peak : Nat) (stamp : Time) (rest : List QueuedRecord) (u d : ToolId)
    (w : WheelLife) (g : DresserLife) (s : State),
    TakesRecord s n (.dress pos r peak) stamp rest → (s.role ⟨n, pos⟩).record.defined = true →
    (s.role ⟨n, pos⟩).record.current = some u → (s.role ⟨n, 0⟩).record.current = some d → u ≠ d →
    (s.tool u).life = .wheel w → (s.tool d).life = .dresser g →
    let role := (s.role ⟨n, 0⟩).record
    let depth := if r = 0 then w.dressStep else min r 5000
    let c := (role.dressCost * min (depth * 256 / w.dressStep) 1024 + 255) / 256
    let left := g.lifeBudget - min 4294967295 ((s.tool d).acc.wt + c)
    Runs (.dress n) s fun t =>
      (t.tool d).acc.wt = min 4294967295 ((s.tool d).acc.wt + c)
      ∧ (t.tool d).acc.wd = (s.tool d).acc.wd ∧ (t.tool d).life = (s.tool d).life
      ∧ (t.tool d).flags = { (s.tool d).flags with
          unconfirmed := false
          lifeWarn := (s.tool d).flags.lifeWarn || decide (left ≤ g.warnWu)
          breakMark := (t.tool d).flags.breakMark }
      ∧ (∀ r', left ≤ g.warnWu → (s.tool d).flags.lifeWarn = false → (s.tool d).link = some ⟨r', .current⟩ →
          (s.tool d).state ≠ .stored → ⟨r'.station, .warning⟩ ∈ t.notices)
      ∧ t.history d = ((if role.dresserHi < min peak 2000 then Verdict.hardDresser
          else if min peak 2000 < role.dresserLo then .softDresser else .clean) :: s.history d).take 4
      ∧ (role.dresserHi < min peak 2000 → (s.tool d).state = .active ∨ (s.tool d).state = .worn →
          (t.tool d).state = .broken ∧ (t.station n).control.state = .halted
          ∧ (t.station n).control.cause = some .breakage ∧ (t.station n).control.haltTool = some d)
      ∧ (role.dresserLo ≤ min peak 2000 → min peak 2000 ≤ role.dresserHi → (s.tool d).state = .active →
          (t.tool d).state = if g.lifeBudget ≤ min 4294967295 ((s.tool d).acc.wt + c) then .worn else .active)
      ∧ t.history u = s.history u

/-- R79: a matching PART_END with GOOD or REWORK, or with SCRAP where no tool's soft verdict completes its strikes,
counts the part to every tool that cut in it, raises the gauge counter, deletes the part, brings the return plan back
after a ONE_PART plan, moves IN_PART to READY and STOPPING to HELD, and asks DRESS for the wheel positions that are
DRESS_DUE. An open gather window then closes and its order forms: a station that was IN_PART becomes HELD with HOLD,
and a HALTED one stays HALTED. A part stands in no other station state than IN_PART, STOPPING and HALTED (R123), and
what a closing window asks of the station link is stated for these three. -/
def Obligations.PartEndClosesPart : Prop :=
  ∀ (n : StationId) (g : Gauge) (stamp : Time) (rest : List QueuedRecord) (part : Part) (s : State),
    TakesRecord s n (.partEnd part.tag g) stamp rest → (s.station n).intake.part = some part →
    (g = .scrap → ∀ x ∈ part.tools, x.finish = true →
      strikeCount ((.softGauge :: s.history x.tool).take 4) < (s.role ⟨n, x.pos⟩).record.strikeLimit) →
    (part.tools.map fun x => x.tool).Nodup →
    let judged : List Area := if g = .scrap then [.histories] else []
    let counted := fun u : ToolId => { (s.tool u).acc with
      partsTotal := min 4294967295 ((s.tool u).acc.partsTotal + 1)
      partsSinceDress := min 65535 ((s.tool u).acc.partsSinceDress + 1) }
    let Closes := fun t : State =>
      (t.station n).intake = { (s.station n).intake with
          queue := rest, part := none, pointer := 0,
          counters := { (s.station n).intake.counters with
            good := if g = .good then min 4294967295 ((s.station n).intake.counters.good + 1)
              else (s.station n).intake.counters.good
            rework := if g = .rework then min 4294967295 ((s.station n).intake.counters.rework + 1)
              else (s.station n).intake.counters.rework
            scrap := if g = .scrap then min 4294967295 ((s.station n).intake.counters.scrap + 1)
              else (s.station n).intake.counters.scrap } }
      ∧ (∀ a, (s.station n).plans.active = some a → a.mode = .onePart →
          (t.station n).plans = { (s.station n).plans with
            active := (s.station n).plans.returned, returned := none })
      ∧ (∀ a, (s.station n).plans.active = some a → a.mode = .standing →
          (t.station n).plans = (s.station n).plans)
    ((s.station n).swap.window = none →
      Runs (.partEnd n) s fun t =>
        OnlyChanges s t ([.tools, .stations, .links, .marks] ++ judged)
        ∧ OnlyTools s t (part.tools.map fun x => x.tool)
        ∧ OnlyStations s t [n] ∧ OnlyLinks s t [stationLink n]
        ∧ (∀ x ∈ part.tools, t.tool x.tool = { s.tool x.tool with acc := counted x.tool })
        ∧ Closes t ∧ (t.station n).swap = (s.station n).swap
        ∧ (s.stationState n = .inPart → t.stationState n = .ready)
        ∧ (s.stationState n = .stopping → t.stationState n = .held)
        ∧ (s.stationState n = .halted → t.stationState n = .halted)
        ∧ ∃ due, DressDue s n due ∧ AskedDress s t n due)
    ∧ ∀ w, (s.station n).swap.window = some w →
      (∀ pos ∈ w.needs, ∃ u, (s.role ⟨n, pos⟩).record.current = some u
        ∧ ((s.tool u).state = .worn ∨ (s.tool u).state = .broken)) →
      Runs (.partEnd n) s fun t =>
        OnlyChanges s t ([.tools, .roles, .pools, .stations, .links, .notices, .marks] ++ judged)
        ∧ OnlyStations s t [n] ∧ OnlyLinks s t [stationLink n]
        ∧ (∀ x ∈ part.tools, (t.tool x.tool).acc = counted x.tool)
        ∧ (∀ u, u ∉ part.tools.map (fun x => x.tool) → (t.tool u).acc = (s.tool u).acc)
        ∧ Closes t ∧ (t.station n).swap.window = none
        ∧ (∃ o, (t.station n).swap.order = some o ∧ o.state = .ordered ∧ o.opened = s.timeBase
            ∧ o.lapse = 1000 * (s.station n).control.settings.orderTimeoutS
            ∧ (o.entries.take w.needs.length).map (fun e => e.pos) = w.needs)
        ∧ ⟨n, .swapOrder⟩ ∈ t.notices
        ∧ (s.stationState n = .inPart ∨ s.stationState n = .stopping → t.stationState n = .held)
        ∧ (s.stationState n = .halted → t.stationState n = .halted)
        ∧ ∃ due, DressDue s n due
          ∧ (s.stationState n = .stopping ∨ s.stationState n = .halted → AskedDress s t n due)
          ∧ (s.stationState n = .inPart →
              (due = [] ∨ ¬ LinkFree s (stationLink n) → AskedState s t n .hold)
              ∧ (due ≠ [] → ¬ LinkFree s (stationLink n) → (t.station n).control.dressSlot = some due)
              ∧ (due ≠ [] → LinkFree s (stationLink n) → (t.station n).control.stateSlot = some .hold
                ∧ ((s.station n).control.stateSlot = none → (t.link (stationLink n)).sending
                    = some ⟨.directive (dressPayload due), 10000 * (due.length + 7)⟩)))

/-- R79, R88 to R94: a part closed SCRAP is counted to its tools and gives SOFT_GAUGE to each tool of its list with a
FINISH mark, and no verdict to any other tool. A tool trips exactly when its strikes are then complete: its trip_count
rises, BREAK_MARK is set, its trip record is a gauge trip's, and an ACTIVE or WORN one becomes BROKEN. The first trip of
the highest position halts the station for BREAKAGE naming its tool, with HALT asked and a HALT notice; its role leaves
RUNNING and an order is open. The part is deleted, the return plan comes back, DRESS is asked for the wheel positions
that are DRESS_DUE, a window that was open is closed into an order, and a station without a first trip moves as a closed
part moves it. -/
def Obligations.ScrapGivesSoftGauge : Prop :=
  ∀ (n : StationId) (stamp : Time) (rest : List QueuedRecord) (part : Part) (s : State),
    TakesRecord s n (.partEnd part.tag .scrap) stamp rest → (s.station n).intake.part = some part →
    (part.tools.map fun x => x.tool).Nodup → (∀ x ∈ part.tools, x.pos ≠ 0) →
    let x := s.station n
    let l := stationLink n
    let Trips := fun y : PartTool => y.finish = true
      ∧ (s.role ⟨n, y.pos⟩).record.strikeLimit ≤ strikeCount ((.softGauge :: s.history y.tool).take 4)
    let First := fun y : PartTool => y ∈ part.tools ∧ Trips y
      ∧ ((s.tool y.tool).state = .active ∨ (s.tool y.tool).state = .worn)
    let counted := fun u : ToolId => { (s.tool u).acc with
      partsTotal := min 4294967295 ((s.tool u).acc.partsTotal + 1)
      partsSinceDress := min 65535 ((s.tool u).acc.partsSinceDress + 1) }
    Runs (.partEnd n) s fun t =>
      OnlyChanges s t [.tools, .histories, .roles, .pools, .stations, .links, .notices, .marks]
      ∧ OnlyStations s t [n] ∧ OnlyLinks s t [l]
      ∧ (∀ y ∈ part.tools, y.finish = true → t.history y.tool = (.softGauge :: s.history y.tool).take 4)
      ∧ (∀ u, (∀ y ∈ part.tools, y.tool = u → y.finish = false) → t.history u = s.history u)
      ∧ (∀ u, u ∉ part.tools.map (fun y => y.tool) → (t.tool u).acc = (s.tool u).acc)
      ∧ (∀ y ∈ part.tools,
        (¬ Trips y → (t.tool y.tool).acc = counted y.tool ∧ (t.tool y.tool).flags = (s.tool y.tool).flags
          ∧ (t.tool y.tool).trip = (s.tool y.tool).trip)
        ∧ (Trips y →
          (t.tool y.tool).acc
              = { counted y.tool with tripCount := ((s.tool y.tool).acc.tripCount + 1) % 65536 }
          ∧ (t.tool y.tool).flags = { (s.tool y.tool).flags with breakMark := true }
          ∧ (t.tool y.tool).trip = some
              { cause := .strikes, role := ⟨n, y.pos⟩, step := none, journal := none, tag := some part.tag,
                peak := none, q := none, stamp := stamp }
          ∧ ((s.tool y.tool).state = .active ∨ (s.tool y.tool).state = .worn → (t.tool y.tool).state = .broken)))
      ∧ (t.station n).intake = { x.intake with
          queue := rest, part := none, pointer := 0,
          counters := { x.intake.counters with scrap := min 4294967295 (x.intake.counters.scrap + 1) } }
      ∧ (∀ a, x.plans.active = some a →
          (a.mode = .standing → (t.station n).plans = x.plans)
          ∧ (a.mode = .onePart →
            (t.station n).plans = { x.plans with active := x.plans.returned, returned := none }))
      ∧ (t.station n).swap.window = none
      ∧ (x.swap.window ≠ none → (t.station n).swap.order ≠ none ∧ ⟨n, .swapOrder⟩ ∈ t.notices)
      ∧ ∃ due, DressDue s n due
        ∧ ((∀ y, ¬ First y) →
          (x.control.state = .inPart → t.stationState n = if x.swap.window = none then .ready else .held)
          ∧ (x.control.state = .stopping → t.stationState n = .held)
          ∧ (x.control.state = .halted → t.stationState n = .halted)
          ∧ (x.swap.window = none → (t.station n).swap = x.swap ∧ t.notices = s.notices ∧ AskedDress s t n due))
        ∧ ∀ y, First y → (∀ z, First z → z ≠ y → z.pos < y.pos) →
          (t.station n).control.state = .halted ∧ (t.station n).control.cause = some .breakage
          ∧ (t.station n).control.haltTool = some y.tool ∧ (t.station n).control.haltLine = true
          ∧ ⟨n, .halt⟩ ∈ t.notices
          ∧ (LinkFree s l → (t.link l).sending = some ⟨.directive (StateDirective.halt .breakage).payload, 70000⟩)
          ∧ (¬ LinkFree s l → t.link l = s.link l ∧ (t.station n).control.stateSlot = some (.halt .breakage))
          ∧ (t.station n).control.dressSlot = (if due = [] then x.control.dressSlot else some due)
          ∧ ((s.role ⟨n, y.pos⟩).state = .running ∨ (s.role ⟨n, y.pos⟩).state = .needy →
              (t.role ⟨n, y.pos⟩).state ≠ .running ∧ (t.station n).swap.order ≠ none)

/-! ### Windows, orders and pools -/

/-- R115 to R117: the tool a choice takes qualifies for the role, no qualifying tool has less life, and none of
the same life has a lower number; where none qualifies the choice takes none. A waiting choice makes the tool it takes
RESERVED for the role and the role RESERVED; where it takes none the role becomes WAITING at the end of its pool's
queue. The entry of a role whose current tool is WORN or BROKEN records what the choice gave; a ride-along role, whose
current tool is neither, gets an entry where a tool qualifies, and where none does it gets none and nothing changes. -/
def Obligations.ChoiceTakesLeastLife : Prop :=
  ∀ (r : RoleId) (s : State),
    let Qualifies := fun u : ToolId =>
      (s.tool u).kind = some (posKind r.pos) ∧ (s.tool u).pool ≠ none
        ∧ (s.tool u).pool = (s.role r).record.pool
        ∧ (s.tool u).state = .stored ∧ (s.tool u).flags.pinned = false
        ∧ (s.role r).record.takeoverMin ≤ (s.tool u).lifeLeft
    (∀ u, s.bestSpare r = some u → Qualifies u
      ∧ ∀ v, Qualifies v → (s.tool u).lifeLeft < (s.tool v).lifeLeft
          ∨ ((s.tool u).lifeLeft = (s.tool v).lifeLeft ∧ u ≤ v))
    ∧ (s.bestSpare r = none ↔ ∀ v, ¬ Qualifies v)
    ∧ (let t := (s.waitingChoice r).1
      (s.waitingChoice r).2 = s.bestSpare r
      ∧ (∀ u, s.bestSpare r = some u →
          OnlyChanges s t [.tools, .roles, .marks] ∧ OnlyTools s t [u] ∧ OnlyRoles s t [r]
          ∧ t.tool u = { s.tool u with state := .reserved, link := some ⟨r, .reserved⟩ }
          ∧ t.role r = { s.role r with state := .reserved })
      ∧ (s.bestSpare r = none →
          OnlyChanges s t [.roles, .pools] ∧ OnlyRoles s t [r]
          ∧ t.role r = { s.role r with state := .waiting }
          ∧ ∀ q, (s.role r).record.pool = some q → OnlyPools s t [q] ∧ t.pool q = s.pool q ++ [r]))
    ∧ (∀ u, (s.role r).record.current = some u → ((s.tool u).state = .worn ∨ (s.tool u).state = .broken) →
        s.makeEntry r.station r.pos = ((s.waitingChoice r).1,
          [{ pos := r.pos, outgoing := u, incoming := s.bestSpare r,
             reason := if (s.tool u).state = .broken then .broken
               else if (s.tool u).flags.undersize = true then .undersize else .worn
             state := if s.bestSpare r = none then .waiting else .reserved }]))
    ∧ (∀ u, (s.role r).record.current = some u → (s.tool u).state ≠ .worn → (s.tool u).state ≠ .broken →
        (∀ v, s.bestSpare r = some v → s.makeEntry r.station r.pos = ((s.waitingChoice r).1,
          [{ pos := r.pos, outgoing := u, incoming := some v, reason := .rideAlong, state := .reserved }]))
        ∧ (s.bestSpare r = none → s.makeEntry r.station r.pos = (s, [])))

/-- R106, R142, R143, R145 to R147, R149 to R152: at the expiry of the window timer, and at the cap deadline, the
window closes and an order forms: its entries are those of the listed needs in join order, of the other NEEDY roles
and of the ride-along roles for which a tool qualified, its lapse timer is full, a SWAP_ORDER notice is queued, and a
READY or IN_PART station is held with HOLD. A need, here of the FINAL current wheel of a role that Tool Adjust makes
WORN, opens a window where the station has none, joins the one it has, the close deadline renewed up to the cap, forms
an order at once with gather_ms 0, and joins an open order with an entry of its own at the end; a new reason of a role
with an entry changes that reason alone; at an OFFLINE station it waits in its role. That an expiry that is not due
closes nothing is the model's choice (notes/assumptions/1.md), and so is how a deadline is compared with the time base
(notes/assumptions/8.md). -/
def Obligations.WindowClosesIntoOrder : Prop :=
  (∀ (n : StationId) (w : Window) (c : Instr) (s : State), s.powered = true →
    (s.station n).swap.window = some w →
    ((c = .windowTimerExpiry n ∧ reached s.timeBase w.close = true)
      ∨ (c = .capDeadlineExpiry n ∧ reached s.timeBase w.cap = true)) →
    (∀ pos ∈ w.needs, ∃ u, (s.role ⟨n, pos⟩).record.current = some u
      ∧ ((s.tool u).state = .worn ∨ (s.tool u).state = .broken)) →
    Runs c s fun t =>
      OnlyChanges s t [.tools, .roles, .pools, .stations, .links, .notices, .marks]
      ∧ OnlyStations s t [n] ∧ OnlyLinks s t [stationLink n]
      ∧ (t.station n).swap.window = none
      ∧ (∃ o, (t.station n).swap.order = some o ∧ o.state = .ordered ∧ o.opened = s.timeBase
          ∧ o.lapse = 1000 * (s.station n).control.settings.orderTimeoutS
          ∧ (o.entries.take w.needs.length).map (fun e => e.pos) = w.needs
          ∧ EntriesFormed s t n w.needs o.entries)
      ∧ ⟨n, .swapOrder⟩ ∈ t.notices
      ∧ t.stationState n = (match s.stationState n with
          | .ready => .held
          | .inPart => .stopping
          | x => x)
      ∧ (if s.stationState n = .ready ∨ s.stationState n = .inPart then AskedState s t n .hold
          else t.links = s.links)
      ∧ (t.station n).intake = (s.station n).intake ∧ (t.station n).plans = (s.station n).plans)
  ∧ (∀ (n : StationId) (s : State), s.powered = true →
    ((∀ w, (s.station n).swap.window = some w → reached s.timeBase w.close = false) →
      Runs (.windowTimerExpiry n) s fun t => OnlyChanges s t [.marks] ∧ MarksOnly s t [])
    ∧ ((∀ w, (s.station n).swap.window = some w → reached s.timeBase w.cap = false) →
      Runs (.capDeadlineExpiry n) s fun t => OnlyChanges s t [.marks] ∧ MarksOnly s t []))
  ∧ (∀ (r : RoleId) (u : ToolId) (life : WheelLife) (p : Payload) (rest : List Payload) (s : State),
    TakesRequest s p rest → p.headD 0 = 0x13 → p.length = 10 → field p 1 1 = u.val + 1 →
    1 ≤ field p 2 2 → field p 2 2 ≤ 60000 → field p 4 2 ≤ 10000 →
    (s.tool u).life = .wheel life → (s.tool u).state = .active → (s.tool u).link = some ⟨r, .current⟩ →
    (s.tool u).flags.final = true → field p 2 2 ≤ (s.tool u).acc.wd → (s.role r).record.current = some u →
    let n := r.station
    let set := (s.station n).control.settings
    let reason : Reason := if (s.tool u).flags.undersize = true then .undersize else .worn
    let Turns := fun t : State => (t.tool u).state = .worn ∧ Replied t rest [0x80, 0x13, 0x00]
    let Gathers := fun w : Window => Runs .toolAdjust s fun t =>
      OnlyChanges s t [.tools, .roles, .stations, .notices, .cell, .marks]
      ∧ OnlyTools s t [u] ∧ OnlyRoles s t [r] ∧ OnlyStations s t [n] ∧ MarksOnly s t [.tool u] ∧ Turns t
      ∧ t.role r = { s.role r with state := .needy }
      ∧ t.station n = { s.station n with swap := { window := some w, order := none } }
      ∧ ∀ x ∈ t.notices, x ∈ s.notices ∨ x = ⟨n, .warning⟩
    ((s.role r).state = .running → s.stationState n = .offline → Runs .toolAdjust s fun t =>
      OnlyChanges s t [.tools, .roles, .notices, .cell, .marks]
      ∧ OnlyTools s t [u] ∧ OnlyRoles s t [r] ∧ Turns t ∧ t.role r = { s.role r with state := .needy }
      ∧ ∀ x ∈ t.notices, x ∈ s.notices ∨ x = ⟨n, .warning⟩)
    ∧ (s.stationState n ≠ .offline →
      ((s.role r).state = .running → (s.station n).swap = { window := none, order := none } → 0 < set.gatherMs →
        Gathers ⟨[r.pos], s.timeBase + BitVec.ofNat 48 set.gatherMs, s.timeBase + BitVec.ofNat 48 set.gatherMaxMs⟩)
      ∧ (∀ w, (s.role r).state = .running → (s.station n).swap = { window := some w, order := none } →
        (r.pos ∈ w.needs → Gathers w)
        ∧ (r.pos ∉ w.needs → Gathers { w with
            needs := w.needs ++ [r.pos]
            close := if set.gatherMs ≤ msLeft s.timeBase w.cap
              then s.timeBase + BitVec.ofNat 48 set.gatherMs else w.cap }))
      ∧ ((s.role r).state = .running → (s.station n).swap = { window := none, order := none } → set.gatherMs = 0 →
        Runs .toolAdjust s fun t =>
          OnlyChanges s t [.tools, .roles, .pools, .stations, .links, .notices, .cell, .marks]
          ∧ OnlyStations s t [n] ∧ OnlyLinks s t [stationLink n] ∧ Turns t
          ∧ (t.station n).swap.window = none
          ∧ (∃ o, (t.station n).swap.order = some o ∧ o.state = .ordered ∧ o.opened = s.timeBase
              ∧ o.lapse = 1000 * set.orderTimeoutS
              ∧ ∃ e ∈ o.entries, e.pos = r.pos ∧ e.outgoing = u ∧ e.reason = reason)
          ∧ ⟨n, .swapOrder⟩ ∈ t.notices
          ∧ t.stationState n = (match s.stationState n with
              | .ready => .held
              | .inPart => .stopping
              | x => x)
          ∧ (if s.stationState n = .ready ∨ s.stationState n = .inPart then AskedState s t n .hold
              else t.links = s.links))
      ∧ ∀ o, (s.station n).swap.order = some o →
        ((s.role r).state = .running → (∀ e ∈ o.entries, e.pos ≠ r.pos) → Runs .toolAdjust s fun t =>
          OnlyChanges s t [.tools, .roles, .pools, .stations, .notices, .cell, .marks]
          ∧ OnlyTools s t (u :: (s.bestSpare r).toList) ∧ OnlyRoles s t [r] ∧ OnlyStations s t [n] ∧ Turns t
          ∧ (t.station n).control = (s.station n).control
          ∧ (t.station n).swap = { (s.station n).swap with order := some { o with entries := o.entries ++
              [{ pos := r.pos, outgoing := u, incoming := s.bestSpare r, reason := reason
                 state := if s.bestSpare r = none then .waiting else .reserved }] } }
          ∧ (∀ v, s.bestSpare r = some v → t.pools = s.pools
              ∧ t.tool v = { s.tool v with state := .reserved, link := some ⟨r, .reserved⟩ }
              ∧ t.role r = { s.role r with state := .reserved })
          ∧ (s.bestSpare r = none → t.role r = { s.role r with state := .waiting }
              ∧ ∀ q, (s.role r).record.pool = some q → OnlyPools s t [q] ∧ t.pool q = s.pool q ++ [r])
          ∧ (o.state = .ordered → ⟨n, .swapOrder⟩ ∈ t.notices)
          ∧ (o.state = .deferred → ∀ x ∈ t.notices, x ∈ s.notices ∨ x = ⟨n, .warning⟩))
        ∧ ∀ e, (s.role r).state = .reserved ∨ (s.role r).state = .waiting →
          o.entries.find? (fun x => x.pos == r.pos) = some e → e.state ≠ .done → Runs .toolAdjust s fun t =>
            OnlyChanges s t [.tools, .stations, .notices, .cell, .marks]
            ∧ OnlyTools s t [u] ∧ OnlyStations s t [n] ∧ Turns t
            ∧ (t.station n).control = (s.station n).control
            ∧ (t.station n).swap = { (s.station n).swap with order := some { o with
                entries := o.entries.map fun x =>
                  if x.pos = r.pos ∧ x.state ≠ .done then { x with reason := reason } else x } }
            ∧ (o.state = .ordered → ⟨n, .swapOrder⟩ ∈ t.notices)
            ∧ (o.state = .deferred → ∀ x ∈ t.notices, x ∈ s.notices ∨ x = ⟨n, .warning⟩)))

/-- R161, R162: a lapse withdraws the order, HALTS the station for LAPSED and queues HALT and SWAP_ORDER: each
WAITING entry's role leaves its pool's queue, each role of a RESERVED or WAITING entry is settled by its
current tool, every role keeps its current and staged tools, and, where no role waits in any pool, each
RESERVED incoming tool is STORED again. The premise on incoming tools is R104's, a reserved tool being RESERVED with
the relation RESERVED: RolesCoherent, which every step keeps (StepKeepsQueuesBounded), gives it. -/
def Obligations.LapseWithdrawsOrder : Prop :=
  ∀ (n : StationId) (o : Order) (s : State), s.powered = true → (s.station n).swap.order = some o →
    o.state = .ordered → o.lapse = 0 → s.stationState n ≠ .offline →
    (∀ e ∈ o.entries, e.state = .reserved → ∀ u, e.incoming = some u →
      ∀ r, (s.role r).record.current ≠ some u) →
    Runs (.lapse n) s fun t =>
      OnlyChanges s t [.tools, .roles, .pools, .stations, .links, .notices, .marks]
      ∧ (t.station n).swap.order = none ∧ (t.station n).swap.window = (s.station n).swap.window
      ∧ (t.station n).control.state = .halted ∧ (t.station n).control.cause = some .lapsed
      ∧ (t.station n).control.haltTool = none ∧ (t.station n).control.haltLine = true
      ∧ (t.station n).intake = (s.station n).intake ∧ (t.station n).plans = (s.station n).plans
      ∧ AskedState s t n (.halt .lapsed)
      ∧ ⟨n, .halt⟩ ∈ t.notices ∧ ⟨n, .swapOrder⟩ ∈ t.notices
      ∧ (∀ r, (t.role r).record = (s.role r).record)
      ∧ (∀ e ∈ o.entries, e.state = .waiting → ∀ p, (s.role ⟨n, e.pos⟩).record.pool = some p →
          (⟨n, e.pos⟩ : RoleId) ∉ t.pool p)
      ∧ (∀ e ∈ o.entries, e.state ≠ .done → (s.role ⟨n, e.pos⟩).record.defined = true →
          ∀ u, (s.role ⟨n, e.pos⟩).record.current = some u →
            (((s.tool u).state = .worn ∨ (s.tool u).state = .broken) →
              (t.role ⟨n, e.pos⟩).state = .needy)
            ∧ ((s.tool u).state = .active → (t.role ⟨n, e.pos⟩).state = .running))
      ∧ ((∀ p, s.pool p = []) → ∀ e ∈ o.entries, e.state = .reserved → ∀ u, e.incoming = some u →
          t.tool u = { s.tool u with state := .stored, link := none })

/-! ### Requests -/

/-- R19, R51, R108, R132, R154, R176, R177: a frame of no request's kind is answered UNKNOWN_KIND with its kind
echoed, and a request whose reply carries any code but DONE and BAD_PLAN has changed nothing: it has left the
intake and its reply fills the slot, and every other area is as it was but for a store write that may begin. -/
def Obligations.TurnedAwayRequestsChangeNothing : Prop :=
  (∀ (p : Payload) (rest : List Payload) (s : State), TakesRequest s p rest →
    isRequestKind (p.headD 0) = false →
    Runs .unknownKind s fun t =>
      OnlyChanges s t [.cell, .marks] ∧ MarksOnly s t [] ∧ Replied t rest [0x80, p.headD 0, 0x01])
  ∧ (∀ (c : Instr) (k : Byte) (p : Payload) (rest : List Payload) (code : Byte) (s t : State),
    TakesRequest s p rest → p.headD 0 = k → requestCommand k = c → isRequestKind k = true →
    exec c s = .next t → t.cell.reply = some [[0x80, k, code]] → code ≠ 0x00 → code ≠ 0x0B →
    OnlyChanges s t [.cell, .marks] ∧ t.cell.intake = rest ∧ MarksOnly s t [])

/-- R25, R26, R42, R63, R113, R122, R140, R160, R185: each of the eight reads, with a payload of its length and its
numbers in range, is answered DONE with its whole data, and changes nothing else. Pool Read lists the STORED tools of
the pool, those not PINNED first, each group in choice order; Plan Read shows an active or return plan as COMPLETE
with every step written; Tool Table Read answers with four frames of summaries. The projection of a wheel is R42's.
Some of the orders and absences of those fields are the model's reading (notes/assumptions/13.md), and so is what is
left to a deadline (notes/assumptions/8.md). -/
def Obligations.ReadsAreServed : Prop :=
  ∀ (rest : List Payload) (s : State),
    let Served := fun (c : Instr) (k : Nat) (data : List (Nat × Nat)) => Runs c s fun t =>
      OnlyChanges s t [.cell, .marks] ∧ MarksOnly s t []
      ∧ Replied t rest (spell ([(1, 0x80), (1, k), (1, 0)] ++ data))
    let whole := fun a : Plan => StagedPlan.mk a.revision a.mode .complete (a.steps.map some)
    (∀ u : ToolId, TakesRequest s [0x16, BitVec.ofNat 8 (u.val + 1)] rest →
        Served .toolRead 0x16 (toolFields s u))
    ∧ (∀ (n : StationId) (slot : Fin 3),
        TakesRequest s [0x23, BitVec.ofNat 8 (n.val + 1), BitVec.ofNat 8 (slot.val + 1)] rest →
        Served .planRead 0x23 (planFields (match slot with
          | 0 => (s.station n).plans.active.map whole
          | 1 => (s.station n).plans.staged
          | 2 => (s.station n).plans.returned.map whole)))
    ∧ (∀ (n : StationId) (pos : Pos),
        TakesRequest s [0x34, BitVec.ofNat 8 (n.val + 1), BitVec.ofNat 8 pos.val] rest →
        Served .roleRead 0x34 (roleFields s ⟨n, pos⟩))
    ∧ (∀ q : PoolId, TakesRequest s [0x35, BitVec.ofNat 8 (q.val + 1)] rest →
        ∃ loose pinned : List ToolId,
          (∀ u, u ∈ loose ↔ (s.tool u).state = .stored ∧ (s.tool u).pool = some q
            ∧ (s.tool u).flags.pinned = false)
          ∧ (∀ u, u ∈ pinned ↔ (s.tool u).state = .stored ∧ (s.tool u).pool = some q
            ∧ (s.tool u).flags.pinned = true)
          ∧ InChoiceOrder s loose ∧ InChoiceOrder s pinned
          ∧ Served .poolRead 0x35 (poolFields s q (loose ++ pinned)))
    ∧ (∀ n : StationId, TakesRequest s [0x45, BitVec.ofNat 8 (n.val + 1)] rest →
        Served .stationRead 0x45 (stationFields (s.station n)))
    ∧ (∀ n : StationId, TakesRequest s [0x54, BitVec.ofNat 8 (n.val + 1)] rest →
        Served .orderRead 0x54 (orderFields s n))
    ∧ (TakesRequest s [0x61] rest → Served .status 0x61 (statusFields s))
    ∧ (TakesRequest s [0x17] rest → Runs .toolTableRead s fun t =>
        let frame := fun (series : Nat) (us : List ToolId) =>
          spell ([(1, 0x80), (1, 0x17), (1, 0), (1, series)] ++ us.flatMap fun u => summaryFields s u)
        let all := List.finRange 64
        OnlyChanges s t [.cell, .marks] ∧ MarksOnly s t [] ∧ t.cell.intake = rest
        ∧ t.cell.reply = some [frame 0x14 (all.take 17), frame 0x24 ((all.drop 17).take 17),
            frame 0x34 ((all.drop 34).take 17), frame 0x44 (all.drop 51)])

/-- R183, R185 and the report layouts: the Status reply's 20 bytes hold the time base, the store state, the number
of marked records, the number of notices and the eight station states. The three notices have their sizes, kind and
station; a SWAP_ORDER carries the order with its entries, or NONE; a HALT the state, cause and halt tool, and for a
BREAKAGE the tool's trip record; and a WARNING each warned current tool in ascending position. Enumerated values go
as the codes of the value code table. -/
def Obligations.ReportLayouts : Prop :=
  ValueCodes
  ∧ (∀ (rest : List Payload) (s : State), TakesRequest s [0x61] rest → s.notices.length ≤ 24 →
    Runs .status s fun t => ∃ r, Replied t rest r ∧ r.length = 20
      ∧ field r 3 6 = s.timeBase.toNat ∧ field r 9 1 = s.store.state.code
      ∧ field r 10 1 = ((List.finRange 120).filter fun i => s.store.marked[i]).length
      ∧ field r 11 1 = s.notices.length
      ∧ ∀ n : StationId, field r (12 + n.val) 1 = (s.stationState n).code)
  ∧ (∀ (n : StationId) (s : State),
    (swapOrderPayload s n).length = 14 + 5 * (orderEntries (s.station n).swap.order).length
    ∧ (haltPayload s n).length = 30
    ∧ (warningPayload s n).length = 3 + 10 * (s.warned n).length ∧ (s.warned n).length ≤ 5
    ∧ (∀ k, (noticePayload s ⟨n, k⟩)[1]? = some (BitVec.ofNat 8 (n.val + 1)))
    ∧ (swapOrderPayload s n)[0]? = some 0x90 ∧ (haltPayload s n)[0]? = some 0x91
    ∧ (warningPayload s n)[0]? = some 0x92
    ∧ (∀ k, noticePayload s ⟨n, k⟩ = spell (noticeFields s n k))
    ∧ field (haltPayload s n) 2 1 = (s.station n).control.state.code
    ∧ field (haltPayload s n) 3 1 = ((s.station n).control.cause.map HaltCause.code).getD 0
    ∧ field (haltPayload s n) 4 1 = ((s.station n).control.haltTool.map fun u => u.val + 1).getD 0
    ∧ ∀ u x, (s.station n).control.cause = some .breakage → (s.station n).control.haltTool = some u →
        (s.tool u).trip = some x → (haltPayload s n).drop 5 = spell (tripFields (some x)))

/-- R14, R16, R17, R20, R119: Tool Enter at a VACANT record writes a STORED tool of the named kind with the fields of
its payload, every account zero, no history and no trip record; PINNED is kept, and the life evaluation sets FINAL
where no dress is left and LIFE_WARN where the warning condition holds. Unless it is PINNED, the tool goes at once to
the oldest role of its pool's waiting queue that it fits. Any other record gets WRONG_STATE. -/
def Obligations.ToolEnterWritesRecord : Prop :=
  ∀ (u : ToolId) (q : PoolId) (life : Life) (spent warn : Bool) (p : Payload) (rest : List Payload) (s : State),
    TakesRequest s p rest → p.headD 0 = 0x10 → p.length = 43 → field p 1 1 = u.val + 1 →
    ((s.tool u).state ≠ .vacant → Runs .toolEnter s fun t =>
      OnlyChanges s t [.cell, .marks] ∧ MarksOnly s t [] ∧ Replied t rest [0x80, 0x10, 0x05])
    ∧ ((s.tool u).state = .vacant → field p 3 1 = q.val + 1 → 1 ≤ field p 4 1 → field p 4 1 ≤ 16 →
      (∀ b ∈ (p.drop 5).take (field p 4 1), 0x20 ≤ b.toNat ∧ b.toNat ≤ 0x7E) →
      ((field p 2 1 = 1
          ∧ life = .wheel ⟨field p 21 4, field p 25 4, field p 21 4, field p 29 2, field p 31 2, field p 33 2⟩
          ∧ 50000 ≤ field p 21 4 ∧ field p 21 4 ≤ 1200000 ∧ 40000 ≤ field p 25 4
          ∧ field p 25 4 < field p 21 4 ∧ 1 ≤ field p 29 2 ∧ field p 29 2 ≤ 5000
          ∧ 1 ≤ field p 31 2 ∧ field p 31 2 ≤ 60000 ∧ field p 33 2 ≤ 10000
          ∧ spent = decide ((field p 21 4 - field p 25 4) / ((field p 29 2 + 4) / 5) = 0)
          ∧ warn = decide ((field p 21 4 - field p 25 4) / ((field p 29 2 + 4) / 5) ≤ field p 33 2))
        ∨ (field p 2 1 = 2 ∧ life = .dresser ⟨field p 35 4, field p 39 4⟩
          ∧ 1 ≤ field p 35 4 ∧ field p 35 4 ≤ 1000000000 ∧ field p 39 4 ≤ field p 35 4
          ∧ spent = false ∧ warn = decide (field p 35 4 ≤ field p 39 4))) →
      let stored : ToolRecord :=
        { state := .stored, life := life, pool := some q, label := (p.drop 5).take (field p 4 1),
          recond := 0, acc := .zero, link := none, trip := none,
          flags := { noFlags with pinned := (s.tool u).flags.pinned, final := spent, lifeWarn := warn } }
      (NotServed s stored → Runs .toolEnter s fun t =>
        OnlyChanges s t [.tools, .histories, .cell, .marks] ∧ OnlyTools s t [u] ∧ OnlyHistories s t [u]
        ∧ MarksOnly s t [.tool u] ∧ Replied t rest [0x80, 0x10, 0x00]
        ∧ t.history u = [] ∧ t.tool u = stored)
      ∧ ∀ before r after, GoesTo s stored q before r after → Runs .toolEnter s fun t =>
        OnlyChanges s t [.tools, .histories, .roles, .pools, .stations, .notices, .cell, .marks]
        ∧ OnlyTools s t [u] ∧ OnlyHistories s t [u] ∧ OnlyRoles s t [r] ∧ OnlyPools s t [q]
        ∧ OnlyStations s t [r.station] ∧ MarksOnly s t [.tool u] ∧ Replied t rest [0x80, 0x10, 0x00]
        ∧ t.history u = [] ∧ ServedTo s t u stored q before r after)

/-- R14, R21, R22: Tool Recondition returns a RETIRED wheel without BREAK_MARK to the store with its new diameters and
an empty interval, its recondition count up by 1, and hands it to its pool, where the first waiting role it qualifies
for takes it, unless it is PINNED; any other state, and BREAK_MARK, get WRONG_STATE, and a dresser or a diameter out of
its range BAD_VALUE. Tool Remove empties a STORED or RETIRED record and answers IN_USE for a tool that belongs to a role
and NOT_DEFINED for a VACANT record. -/
def Obligations.ReconditionAndRemove : Prop :=
  (∀ (u : ToolId) (p : Payload) (rest : List Payload) (s : State),
    TakesRequest s p rest → p.headD 0 = 0x11 → p.length = 10 → field p 1 1 = u.val + 1 →
    let inRange := 50000 ≤ field p 2 4 ∧ field p 2 4 ≤ 1200000 ∧ 40000 ≤ field p 6 4 ∧ field p 6 4 < field p 2 4
    ((s.tool u).state ≠ .retired ∨ (s.tool u).flags.breakMark = true → Runs .toolRecondition s fun t =>
      OnlyChanges s t [.cell, .marks] ∧ MarksOnly s t [] ∧ Replied t rest [0x80, 0x11, 0x05])
    ∧ ((s.tool u).state = .retired → (s.tool u).flags.breakMark = false →
        (∀ w, (s.tool u).life ≠ .wheel w) ∨ ¬ inRange → Runs .toolRecondition s fun t =>
      OnlyChanges s t [.cell, .marks] ∧ MarksOnly s t [] ∧ Replied t rest [0x80, 0x11, 0x03])
    ∧ ∀ w, (s.tool u).state = .retired → (s.tool u).flags.breakMark = false → (s.tool u).life = .wheel w →
      (s.tool u).link = none → 1 ≤ w.dressLimit → inRange →
      let left := (field p 2 4 - field p 6 4) / ((w.dressStep + 4) / 5)
      let stored : ToolRecord := { s.tool u with
        state := .stored
        life := .wheel { w with dNew := field p 2 4, dMin := field p 6 4, dNow := field p 2 4 }
        recond := min 255 ((s.tool u).recond + 1)
        acc := { (s.tool u).acc with wd := 0, partsSinceDress := 0, avg := 0, dressCount := 0 }
        flags := { (s.tool u).flags with
          final := decide (left = 0), lifeWarn := decide (left ≤ w.warnDresses), undersize := false,
          depthClamped := false, overdue := false, dressDue := false }
        trip := none }
      (NotServed s stored →
        Runs .toolRecondition s fun t =>
          OnlyChanges s t [.tools, .histories, .cell, .marks] ∧ OnlyTools s t [u] ∧ OnlyHistories s t [u]
          ∧ MarksOnly s t [.tool u] ∧ Replied t rest [0x80, 0x11, 0x00]
          ∧ t.history u = [] ∧ t.tool u = stored)
      ∧ ∀ q before r after, GoesTo s stored q before r after →
        Runs .toolRecondition s fun t =>
          OnlyChanges s t [.tools, .histories, .roles, .pools, .stations, .notices, .cell, .marks]
          ∧ OnlyTools s t [u] ∧ OnlyHistories s t [u] ∧ OnlyRoles s t [r] ∧ OnlyPools s t [q]
          ∧ OnlyStations s t [r.station] ∧ MarksOnly s t [.tool u] ∧ Replied t rest [0x80, 0x11, 0x00]
          ∧ t.history u = [] ∧ ServedTo s t u stored q before r after)
  ∧ ∀ (u : ToolId) (rest : List Payload) (s : State),
      TakesRequest s [0x12, BitVec.ofNat 8 (u.val + 1)] rest →
      ((s.tool u).state = .stored ∨ (s.tool u).state = .retired →
        Runs .toolRemove s fun t =>
          OnlyChanges s t [.tools, .histories, .cell, .marks] ∧ OnlyTools s t [u] ∧ OnlyHistories s t [u]
          ∧ MarksOnly s t [.tool u] ∧ Replied t rest [0x80, 0x12, 0x00]
          ∧ t.tool u = .vacant ∧ t.history u = [])
      ∧ ((s.tool u).state = .vacant → Runs .toolRemove s fun t =>
          OnlyChanges s t [.cell, .marks] ∧ MarksOnly s t [] ∧ Replied t rest [0x80, 0x12, 0x04])
      ∧ ((s.tool u).state = .reserved ∨ (s.tool u).state = .active ∨ (s.tool u).state = .worn
          ∨ (s.tool u).state = .broken →
        Runs .toolRemove s fun t =>
          OnlyChanges s t [.cell, .marks] ∧ MarksOnly s t [] ∧ Replied t rest [0x80, 0x12, 0x06])

/-- R16, R17, R23, R24, R119: Tool Adjust writes a wheel's dress_limit and warn_dresses, or a dresser's warn_wu, and
evaluates its life, LIFE_WARN newly set queueing a WARNING for a current tool; an ACTIVE FINAL wheel at or past its new
dress_limit becomes WORN, its role leaving RUNNING, and any other ACTIVE tool with life left stays ACTIVE; a warn_wu
above the budget is BAD_VALUE. Tool Pin sets PINNED in every state, and Tool Unpin of a tool that is not both PINNED
and STORED, or for which no role that waits in its pool qualifies, clears it and leaves the tool where it is. -/
def Obligations.AdjustAndPin : Prop :=
  (∀ (u : ToolId) (w : WheelLife) (p : Payload) (rest : List Payload) (s : State),
    TakesRequest s p rest → p.headD 0 = 0x13 → p.length = 10 → field p 1 1 = u.val + 1 →
    (s.tool u).state ≠ .vacant → (s.tool u).life = .wheel w →
    1 ≤ field p 2 2 → field p 2 2 ≤ 60000 → field p 4 2 ≤ 10000 →
    let left := if w.dNow ≤ w.dMin then 0 else (w.dNow - w.dMin) / ((w.dressStep + 4) / 5)
    let spent := (s.tool u).flags.final || decide (left = 0)
    let life := Life.wheel { w with dressLimit := field p 2 2, warnDresses := field p 4 2 }
    ((s.tool u).state ≠ .active
        ∨ ((s.tool u).flags.undersize = false ∧ (spent = false ∨ (s.tool u).acc.wd < field p 2 2)) →
      Runs .toolAdjust s fun t =>
        OnlyChanges s t [.tools, .notices, .cell, .marks] ∧ OnlyTools s t [u]
        ∧ MarksOnly s t (if t.tool u = s.tool u then [] else [.tool u]) ∧ Replied t rest [0x80, 0x13, 0x00]
        ∧ WarningQueued s t u (decide (left ≤ field p 4 2))
        ∧ t.tool u = { s.tool u with
            life := life
            flags := { (s.tool u).flags with
              final := spent
              dressDue := decide (field p 2 2 ≤ (s.tool u).acc.wd)
                && ((s.tool u).flags.dressDue || !spent)
              lifeWarn := decide (left ≤ field p 4 2) } })
    ∧ ∀ r, (s.tool u).state = .active → (s.tool u).link = some ⟨r, .current⟩ →
        (s.role r).state = .running → (s.role r).record.current = some u → spent = true →
        field p 2 2 ≤ (s.tool u).acc.wd →
        Runs .toolAdjust s fun t =>
          (t.tool u).state = .worn ∧ (t.tool u).life = life ∧ (t.tool u).acc = (s.tool u).acc
          ∧ (t.role r).state ≠ .running ∧ Replied t rest [0x80, 0x13, 0x00])
  ∧ (∀ (u : ToolId) (d : DresserLife) (p : Payload) (rest : List Payload) (s : State),
    TakesRequest s p rest → p.headD 0 = 0x13 → p.length = 10 → field p 1 1 = u.val + 1 →
    (s.tool u).state ≠ .vacant → (s.tool u).life = .dresser d →
    (d.lifeBudget < field p 6 4 → Runs .toolAdjust s fun t =>
      OnlyChanges s t [.cell, .marks] ∧ MarksOnly s t [] ∧ Replied t rest [0x80, 0x13, 0x03])
    ∧ (field p 6 4 ≤ d.lifeBudget → (s.tool u).state ≠ .active ∨ (s.tool u).acc.wt < d.lifeBudget →
      Runs .toolAdjust s fun t =>
        let warn := decide (d.lifeBudget - (s.tool u).acc.wt ≤ field p 6 4)
        OnlyChanges s t [.tools, .notices, .cell, .marks] ∧ OnlyTools s t [u]
        ∧ MarksOnly s t (if t.tool u = s.tool u then [] else [.tool u]) ∧ Replied t rest [0x80, 0x13, 0x00]
        ∧ WarningQueued s t u warn
        ∧ t.tool u = { s.tool u with
            life := .dresser { d with warnWu := field p 6 4 }
            flags := { (s.tool u).flags with lifeWarn := warn } }))
  ∧ (∀ (u : ToolId) (rest : List Payload) (s : State),
    (TakesRequest s [0x14, BitVec.ofNat 8 (u.val + 1)] rest →
      Runs .toolPin s fun t =>
        OnlyChanges s t [.tools, .cell, .marks] ∧ OnlyTools s t [u] ∧ Replied t rest [0x80, 0x14, 0x00]
        ∧ MarksOnly s t (if (s.tool u).flags.pinned = true then [] else [.tool u])
        ∧ t.tool u = { s.tool u with flags := { (s.tool u).flags with pinned := true } })
    ∧ (TakesRequest s [0x15, BitVec.ofNat 8 (u.val + 1)] rest →
      let unpinned : ToolRecord := { s.tool u with flags := { (s.tool u).flags with pinned := false } }
      ((s.tool u).flags.pinned = false ∨ (s.tool u).state ≠ .stored ∨ NotServed s unpinned) →
      Runs .toolUnpin s fun t =>
        OnlyChanges s t [.tools, .cell, .marks] ∧ OnlyTools s t [u] ∧ Replied t rest [0x80, 0x15, 0x00]
        ∧ MarksOnly s t (if (s.tool u).flags.pinned = true then [.tool u] else [])
        ∧ t.tool u = unpinned))

/-- R14, R119, R153: a STORED tool that Tool Unpin hands to its pool goes to the first role of the waiting queue
it qualifies for: it becomes RESERVED for that role, the role leaves the queue and becomes RESERVED, the role's
entry takes it, and an ORDERED order is reported. -/
def Obligations.UnpinServesFirstQualifying : Prop :=
  ∀ (u : ToolId) (q : PoolId) (before after : List RoleId) (r : RoleId) (rest : List Payload) (s : State),
    TakesRequest s [0x15, BitVec.ofNat 8 (u.val + 1)] rest →
    let unpinned : ToolRecord := { s.tool u with flags := { (s.tool u).flags with pinned := false } }
    (s.tool u).state = .stored → (s.tool u).flags.pinned = true → GoesTo s unpinned q before r after →
    Runs .toolUnpin s fun t =>
      OnlyChanges s t [.tools, .roles, .pools, .stations, .notices, .cell, .marks]
      ∧ OnlyTools s t [u] ∧ OnlyRoles s t [r] ∧ OnlyPools s t [q] ∧ OnlyStations s t [r.station]
      ∧ MarksOnly s t [.tool u] ∧ Replied t rest [0x80, 0x15, 0x00]
      ∧ ServedTo s t u unpinned q before r after

/-- R97 to R100, R157: Tool Release names the trip_count it releases, and a stale count is refused. It clears
BREAK_MARK and the history; a BROKEN current tool that is not worn out goes back to ACTIVE, its role to RUNNING, and
its need leaves the window, or its entry the order: a WAITING role leaves its pool's queue, and the incoming tool of a
RESERVED entry is stored again and goes to the oldest waiting role of its pool that it fits. The order goes on with
the other entries, or completes where each of them is DONE; a worn-out one becomes WORN, its need staying where it is
as R99 reads (notes/assumptions/11.md); a RETIRED one stays RETIRED. -/
def Obligations.ReleaseReturnsTool : Prop :=
  ∀ (u : ToolId) (lo hi : Byte) (rest : List Payload) (s : State),
    TakesRequest s [0x18, BitVec.ofNat 8 (u.val + 1), lo, hi] rest →
    let count := lo.toNat + 256 * hi.toNat
    let released : ToolRecord := { s.tool u with flags := { (s.tool u).flags with breakMark := false } }
    ((s.tool u).state ≠ .vacant → (s.tool u).flags.breakMark = true → count ≠ (s.tool u).acc.tripCount →
      Runs .toolRelease s fun t =>
        OnlyChanges s t [.cell, .marks] ∧ MarksOnly s t [] ∧ Replied t rest [0x80, 0x18, 0x08])
    ∧ ((s.tool u).flags.breakMark = true → count = (s.tool u).acc.tripCount →
      ((s.tool u).state = .retired →
        Runs .toolRelease s fun t =>
          OnlyChanges s t [.tools, .histories, .cell, .marks] ∧ OnlyTools s t [u] ∧ OnlyHistories s t [u]
          ∧ MarksOnly s t [.tool u] ∧ Replied t rest [0x80, 0x18, 0x00, 0x06, lo, hi]
          ∧ t.tool u = released ∧ t.history u = [])
      ∧ ∀ r, (s.tool u).state = .broken → (s.tool u).link = some ⟨r, .current⟩ →
        (s.role r).record.current = some u →
        ((s.role r).record.staged ≠ none → Runs .toolRelease s fun t =>
          OnlyChanges s t [.cell, .marks] ∧ MarksOnly s t [] ∧ Replied t rest [0x80, 0x18, 0x05])
        ∧ ((s.role r).record.staged = none → (s.tool u).lifeSpent = true →
          Runs .toolRelease s fun t =>
            OnlyChanges s t [.tools, .histories, .stations, .notices, .cell, .marks]
            ∧ OnlyTools s t [u] ∧ OnlyHistories s t [u] ∧ OnlyStations s t [r.station]
            ∧ MarksOnly s t [.tool u] ∧ Replied t rest [0x80, 0x18, 0x00, 0x04, lo, hi]
            ∧ t.tool u = { released with state := .worn } ∧ t.history u = []
            ∧ (t.station r.station).control = (s.station r.station).control
            ∧ (t.station r.station).swap.window = (s.station r.station).swap.window
            ∧ (t.station r.station).swap.order = (s.station r.station).swap.order.map fun o =>
                { o with entries := o.entries.map fun e =>
                  if e.pos = r.pos ∧ e.state ≠ .done then
                    { e with reason := if (s.tool u).flags.undersize = true then .undersize else .worn }
                  else e })
        ∧ ((s.role r).record.staged = none → (s.tool u).lifeSpent = false →
            (∀ o, (s.station r.station).swap.order = some o → ∀ e ∈ o.entries, e.pos ≠ r.pos) →
          Runs .toolRelease s fun t =>
            OnlyChanges s t [.tools, .histories, .roles, .stations, .cell, .marks]
            ∧ OnlyTools s t [u] ∧ OnlyHistories s t [u] ∧ OnlyRoles s t [r] ∧ OnlyStations s t [r.station]
            ∧ MarksOnly s t [.tool u] ∧ Replied t rest [0x80, 0x18, 0x00, 0x03, lo, hi]
            ∧ t.tool u = { released with state := .active } ∧ t.history u = []
            ∧ t.role r = { s.role r with state := .running }
            ∧ (t.station r.station).control = (s.station r.station).control
            ∧ (t.station r.station).swap.order = (s.station r.station).swap.order
            ∧ (∀ w, (s.station r.station).swap.window = some w →
                ((∀ pos ∈ w.needs, pos = r.pos) → (t.station r.station).swap.window = none)
                ∧ (w.needs.filter (fun pos => pos != r.pos) ≠ [] → (t.station r.station).swap.window
                    = some { w with needs := w.needs.filter fun pos => pos != r.pos })))
        ∧ ∀ o e, (s.role r).record.staged = none → (s.tool u).lifeSpent = false →
            (s.station r.station).swap = { window := none, order := some o } →
            o.entries.find? (fun x => x.pos == r.pos) = some e →
          let n := r.station
          let left := o.entries.filter fun x => x.pos != r.pos
          let Leaves := fun (t : State) (entries : List Entry) =>
            Replied t rest [0x80, 0x18, 0x00, 0x03, lo, hi] ∧ OnlyHistories s t [u] ∧ OnlyLinks s t [stationLink n]
            ∧ t.tool u = { released with state := .active } ∧ t.history u = []
            ∧ t.role r = { s.role r with state := .running }
            ∧ (t.station n).intake = (s.station n).intake ∧ (t.station n).plans = (s.station n).plans
            ∧ (t.station n).swap.window = none
            ∧ ((∃ x ∈ entries, x.state ≠ .done) → (t.station n).swap.order = some { o with entries := entries }
                ∧ (t.station n).control = (s.station n).control ∧ t.links = s.links)
            ∧ ((∀ x ∈ entries, x.state = .done) → (t.station n).swap.order = none ∧ ⟨n, .swapOrder⟩ ∈ t.notices
                ∧ t.stationState n = (match s.stationState n with
                  | .held => .ready
                  | .stopping => .inPart
                  | x => x)
                ∧ (if s.stationState n = .held ∨ s.stationState n = .stopping then AskedState s t n .release
                    else t.links = s.links ∧ (t.station n).control = (s.station n).control))
          (e.state = .waiting → Runs .toolRelease s fun t =>
            OnlyChanges s t [.tools, .histories, .roles, .pools, .stations, .links, .notices, .cell, .marks]
            ∧ OnlyTools s t [u] ∧ OnlyRoles s t [r] ∧ OnlyStations s t [n] ∧ MarksOnly s t [.tool u]
            ∧ Leaves t left ∧ ((∃ x ∈ left, x.state ≠ .done) → t.notices = s.notices)
            ∧ ∀ q, (s.role r).record.pool = some q → OnlyPools s t [q] ∧ t.pool q = (s.pool q).filter fun x => x != r)
          ∧ ∀ i, e.state = .reserved → e.incoming = some i → i ≠ u →
            let stored : ToolRecord := { s.tool i with state := .stored, link := none }
            (NotServed s stored → Runs .toolRelease s fun t =>
              OnlyChanges s t [.tools, .histories, .roles, .stations, .links, .notices, .cell, .marks]
              ∧ OnlyTools s t [u, i] ∧ OnlyRoles s t [r] ∧ OnlyStations s t [n]
              ∧ Leaves t left ∧ ((∃ x ∈ left, x.state ≠ .done) → t.notices = s.notices) ∧ t.tool i = stored)
            ∧ ∀ q before r' after, GoesTo s stored q before r' after → r' ≠ r → Runs .toolRelease s fun t =>
              OnlyChanges s t [.tools, .histories, .roles, .pools, .stations, .links, .notices, .cell, .marks]
              ∧ OnlyTools s t [u, i] ∧ OnlyRoles s t [r, r'] ∧ OnlyPools s t [q] ∧ OnlyStations s t [n, r'.station]
              ∧ t.tool i = { stored with state := .reserved, link := some ⟨r', .reserved⟩ }
              ∧ t.role r' = { s.role r' with state := .reserved } ∧ t.pool q = before ++ after
              ∧ Leaves t (if r'.station = n then left.map fun x =>
                  if x.pos = r'.pos then { x with incoming := some i, state := .reserved } else x else left)
              ∧ (r'.station = n → o.state = .ordered → ⟨n, .swapOrder⟩ ∈ t.notices)
              ∧ ∀ o', r'.station ≠ n → (s.station r'.station).swap.order = some o' →
                (t.station r'.station).swap = { (s.station r'.station).swap with
                  order := some { o' with entries := o'.entries.map fun x =>
                    if x.pos = r'.pos then { x with incoming := some i, state := .reserved } else x } }
                ∧ (o'.state = .ordered → ⟨r'.station, .swapOrder⟩ ∈ t.notices))

/-- R52 to R56: Plan Begin puts an empty FILLING plan in the staged slot and Plan Drop empties it. Plan Steps
writes its entries and keeps every other index; the plan is then FILLING while an index is unwritten, COMPLETE
if every position it names is a defined role, and discarded with BAD_PLAN if not. A revision, mode, count, index or
step field out of its range is BAD_VALUE and Plan Steps then writes none of its entries; without a staged plan it is
NOT_DEFINED. No record is marked. -/
def Obligations.PlanRequestsFillStagedSlot : Prop :=
  (∀ (n : StationId) (rest : List Payload) (s : State),
    (∀ (lo hi : Byte) (mode : PlanMode) (count : Nat),
      TakesRequest s [0x20, BitVec.ofNat 8 (n.val + 1), lo, hi, BitVec.ofNat 8 mode.code,
        BitVec.ofNat 8 count] rest →
      lo.toNat + 256 * hi.toNat ≠ 0 → 1 ≤ count → count ≤ 24 →
      Runs .planBegin s fun t =>
        OnlyChanges s t [.stations, .cell, .marks] ∧ OnlyStations s t [n] ∧ MarksOnly s t []
        ∧ Replied t rest [0x80, 0x20, 0x00]
        ∧ t.station n = { s.station n with plans := { (s.station n).plans with
            staged := some ⟨lo.toNat + 256 * hi.toNat, mode, .filling, List.replicate count none⟩ } })
    ∧ (∀ lo hi mode count : Byte, TakesRequest s [0x20, BitVec.ofNat 8 (n.val + 1), lo, hi, mode, count] rest →
      (lo.toNat + 256 * hi.toNat = 0 ∨ mode.toNat < 1 ∨ 2 < mode.toNat ∨ count.toNat < 1 ∨ 24 < count.toNat) →
      Runs .planBegin s fun t =>
        OnlyChanges s t [.cell, .marks] ∧ MarksOnly s t [] ∧ Replied t rest [0x80, 0x20, 0x03])
    ∧ (∀ p : Payload, TakesRequest s p rest → p.headD 0 = 0x21 → p.length = 4 + 11 * field p 3 1 →
      field p 1 1 = n.val + 1 →
      ((s.station n).plans.staged = none → Runs .planSteps s fun t =>
        OnlyChanges s t [.cell, .marks] ∧ MarksOnly s t [] ∧ Replied t rest [0x80, 0x21, 0x04])
      ∧ ∀ st, (s.station n).plans.staged = some st →
        (field p 3 1 < 1 ∨ 24 < field p 3 1 ∨ field p 2 1 < 1 ∨ st.steps.length < field p 2 1 + field p 3 1 - 1
          ∨ ∃ i < field p 3 1, let at' := 4 + 11 * i
            ¬ (1 ≤ field p at' 1 ∧ field p at' 1 ≤ 4 ∧ 1 ≤ field p (at' + 1) 1 ∧ field p (at' + 1) 1 ≤ 15
              ∧ 1 ≤ field p (at' + 2) 1 ∧ field p (at' + 2) 1 ≤ 3 ∧ field p (at' + 3) 2 ≤ 4000
              ∧ 1 ≤ field p (at' + 5) 2 ∧ 1 ≤ field p (at' + 7) 2 ∧ field p (at' + 7) 2 ≤ 2000
              ∧ field p (at' + 9) 2 < field p (at' + 7) 2)) →
        Runs .planSteps s fun t =>
          OnlyChanges s t [.cell, .marks] ∧ MarksOnly s t [] ∧ Replied t rest [0x80, 0x21, 0x03])
    ∧ (TakesRequest s [0x22, BitVec.ofNat 8 (n.val + 1)] rest →
      (∀ st, (s.station n).plans.staged = some st →
        Runs .planDrop s fun t =>
          OnlyChanges s t [.stations, .cell, .marks] ∧ OnlyStations s t [n] ∧ MarksOnly s t []
          ∧ Replied t rest [0x80, 0x22, 0x00]
          ∧ t.station n = { s.station n with plans := { (s.station n).plans with staged := none } })
      ∧ ((s.station n).plans.staged = none → Runs .planDrop s fun t =>
          OnlyChanges s t [.cell, .marks] ∧ MarksOnly s t [] ∧ Replied t rest [0x80, 0x22, 0x04])))
  ∧ (∀ (n : StationId) (first : Nat) (new : List PlanStep) (st : StagedPlan) (rest : List Payload) (s : State),
    TakesRequest s (0x21 :: BitVec.ofNat 8 (n.val + 1) :: BitVec.ofNat 8 first :: BitVec.ofNat 8 new.length
      :: new.flatMap stepBytes) rest →
    (s.station n).plans.staged = some st → 1 ≤ first → first ≤ 24 → 1 ≤ new.length → new.length ≤ 24 →
    first + new.length ≤ st.steps.length + 1 →
    (∀ x ∈ new, x.pos ≠ 0 ∧ 1 ≤ x.journal ∧ x.journal ≤ 15 ∧ x.baseCost ≤ 4000 ∧ 1 ≤ x.eExp
      ∧ x.eExp ≤ 65535 ∧ 1 ≤ x.peakHi ∧ x.peakHi ≤ 2000 ∧ x.peakLo < x.peakHi) →
    ∀ steps : List (Option PlanStep), steps.length = st.steps.length →
      (∀ i, i < st.steps.length → steps[i]? =
        if first ≤ i + 1 ∧ i + 1 < first + new.length then some new[i + 1 - first]? else st.steps[i]?) →
      Runs .planSteps s fun t =>
        OnlyChanges s t [.stations, .cell, .marks] ∧ OnlyStations s t [n] ∧ MarksOnly s t []
        ∧ (none ∈ steps →
            t.station n = { s.station n with plans := { (s.station n).plans with
              staged := some { st with steps := steps } } }
            ∧ Replied t rest [0x80, 0x21, 0x00, BitVec.ofNat 8 st.fill.code,
                BitVec.ofNat 8 (steps.filter fun x => x.isSome).length])
        ∧ (none ∉ steps → (∀ x, some x ∈ steps → (s.role ⟨n, x.pos⟩).record.defined = true) →
            t.station n = { s.station n with plans := { (s.station n).plans with
              staged := some { st with steps := steps, fill := .complete } } }
            ∧ Replied t rest [0x80, 0x21, 0x00, 0x02, BitVec.ofNat 8 steps.length])
        ∧ (none ∉ steps → (∃ x, some x ∈ steps ∧ (s.role ⟨n, x.pos⟩).record.defined = false) →
            t.station n = { s.station n with plans := { (s.station n).plans with staged := none } }
            ∧ Replied t rest [0x80, 0x21, 0x0B]))

/-- R108 to R110: at an OFFLINE station Role Define writes a wheel role's pool, takeover_min and verdict settings
and leaves its tools, an UNDEFINED role becoming EMPTY, and Role Clear makes a role that no plan names and no
tool fills UNDEFINED with the values of R105. At any other station both are answered LOCKED. -/
def Obligations.RoleDefineAndClear : Prop :=
  ∀ (n : StationId) (pos : Pos) (q : PoolId) (p : Payload) (rest : List Payload) (s : State),
    (TakesRequest s p rest → p.headD 0 = 0x30 → p.length = 19 → field p 1 1 = n.val + 1 →
      field p 2 1 = pos.val →
      (s.stationState n ≠ .offline → Runs .roleDefine s fun t =>
        OnlyChanges s t [.cell, .marks] ∧ MarksOnly s t [] ∧ Replied t rest [0x80, 0x30, 0x07])
      ∧ (s.stationState n = .offline → field p 3 1 = q.val + 1 →
        ((s.role ⟨n, pos⟩).record.current = none ∨ (s.role ⟨n, pos⟩).record.pool = some q) →
        1 ≤ field p 8 1 → field p 8 1 ≤ 4 →
        ((pos ≠ 0 → field p 4 4 ≤ 65535 → field p 9 2 ≤ 1024 → 256 ≤ field p 11 2 → field p 11 2 ≤ 4096 →
          Runs .roleDefine s fun t =>
            OnlyChanges s t [.roles, .cell, .marks] ∧ OnlyRoles s t [⟨n, pos⟩]
            ∧ MarksOnly s t [.role ⟨n, pos⟩] ∧ Replied t rest [0x80, 0x30, 0x00]
            ∧ t.role ⟨n, pos⟩ = ⟨{ (s.role ⟨n, pos⟩).record with
                defined := true, pool := some q, takeoverMin := field p 4 4, strikeLimit := field p 8 1,
                eLo := field p 9 2, eHi := field p 11 2 },
              if (s.role ⟨n, pos⟩).state = .undefined then .empty else (s.role ⟨n, pos⟩).state⟩)
        ∧ (pos = 0 → field p 4 4 ≤ 1000000000 → 1 ≤ field p 13 2 → field p 13 2 ≤ 2000 →
            field p 15 2 < field p 13 2 → field p 17 2 ≤ 4000 →
          Runs .roleDefine s fun t =>
            OnlyChanges s t [.roles, .cell, .marks] ∧ OnlyRoles s t [⟨n, pos⟩]
            ∧ MarksOnly s t [.role ⟨n, pos⟩] ∧ Replied t rest [0x80, 0x30, 0x00]
            ∧ t.role ⟨n, pos⟩ = ⟨{ (s.role ⟨n, pos⟩).record with
                defined := true, pool := some q, takeoverMin := field p 4 4, strikeLimit := field p 8 1,
                dresserHi := field p 13 2, dresserLo := field p 15 2, dressCost := field p 17 2 },
              if (s.role ⟨n, pos⟩).state = .undefined then .empty else (s.role ⟨n, pos⟩).state⟩))))
    ∧ (TakesRequest s [0x31, BitVec.ofNat 8 (n.val + 1), BitVec.ofNat 8 pos.val] rest →
      (s.stationState n ≠ .offline → Runs .roleClear s fun t =>
        OnlyChanges s t [.cell, .marks] ∧ MarksOnly s t [] ∧ Replied t rest [0x80, 0x31, 0x07])
      ∧ (s.stationState n = .offline → (s.role ⟨n, pos⟩).record.defined = true →
        (s.role ⟨n, pos⟩).record.current = none → (s.role ⟨n, pos⟩).record.staged = none →
        (∀ a, (s.station n).plans.active = some a → ∀ x ∈ a.steps, x.pos ≠ pos) →
        (∀ a, (s.station n).plans.returned = some a → ∀ x ∈ a.steps, x.pos ≠ pos) →
        (∀ a, (s.station n).plans.staged = some a → ∀ x, some x ∈ a.steps → x.pos ≠ pos) →
        Runs .roleClear s fun t =>
          OnlyChanges s t [.roles, .cell, .marks] ∧ OnlyRoles s t [⟨n, pos⟩]
          ∧ MarksOnly s t [.role ⟨n, pos⟩] ∧ Replied t rest [0x80, 0x31, 0x00]
          ∧ t.role ⟨n, pos⟩ = ⟨
            { defined := false, pool := none, takeoverMin := 0, strikeLimit := 2, eLo := 128,
              eHi := 640, dresserHi := 2000, dresserLo := 0, dressCost := 0, current := none, staged := none },
            .undefined⟩))

/-- R11, R13, R14, R111, R112, R119: Tool Mount puts a STORED tool of the position's kind and the role's pool in
service at an EMPTY role with an empty history, ACTIVE, or WORN at a NEEDY role where it is worn out. Tool Unmount
stores the tool of a RUNNING role, which goes at once to the oldest role of its pool's waiting queue that it fits
unless it is PINNED, and retires that of a NEEDY one. -/
def Obligations.MountAndUnmount : Prop :=
  ∀ (n : StationId) (pos : Pos) (u : ToolId) (rest : List Payload) (s : State),
    s.stationState n = .offline → (s.role ⟨n, pos⟩).record.defined = true →
    (TakesRequest s [0x32, BitVec.ofNat 8 (n.val + 1), BitVec.ofNat 8 pos.val, BitVec.ofNat 8 (u.val + 1)] rest →
      (s.role ⟨n, pos⟩).state = .empty → (s.role ⟨n, pos⟩).record.current = none →
      (s.tool u).state = .stored → (s.tool u).kind = some (posKind pos) →
      (s.tool u).pool = (s.role ⟨n, pos⟩).record.pool →
      Runs .toolMount s fun t =>
        OnlyChanges s t [.tools, .histories, .roles, .cell, .marks]
        ∧ OnlyTools s t [u] ∧ OnlyHistories s t [u] ∧ OnlyRoles s t [⟨n, pos⟩]
        ∧ MarksOnly s t [.tool u, .role ⟨n, pos⟩] ∧ Replied t rest [0x80, 0x32, 0x00] ∧ t.history u = []
        ∧ t.tool u = { s.tool u with
            link := some ⟨⟨n, pos⟩, .current⟩
            state := if (s.tool u).lifeSpent = true then .worn else .active }
        ∧ t.role ⟨n, pos⟩ = ⟨{ (s.role ⟨n, pos⟩).record with current := some u },
            if (s.tool u).lifeSpent = true then .needy else .running⟩)
    ∧ (TakesRequest s [0x33, BitVec.ofNat 8 (n.val + 1), BitVec.ofNat 8 pos.val] rest →
      (s.role ⟨n, pos⟩).record.current = some u →
      ((s.role ⟨n, pos⟩).state = .running → (s.tool u).state = .active →
        let stored : ToolRecord := { s.tool u with state := .stored, link := none }
        (NotServed s stored → Runs .toolUnmount s fun t =>
          OnlyChanges s t [.tools, .roles, .cell, .marks] ∧ OnlyTools s t [u] ∧ OnlyRoles s t [⟨n, pos⟩]
          ∧ MarksOnly s t [.tool u, .role ⟨n, pos⟩] ∧ Replied t rest [0x80, 0x33, 0x00]
          ∧ t.tool u = stored
          ∧ t.role ⟨n, pos⟩ = ⟨{ (s.role ⟨n, pos⟩).record with current := none }, .empty⟩)
        ∧ ∀ q before r after, GoesTo s stored q before r after → r ≠ ⟨n, pos⟩ → Runs .toolUnmount s fun t =>
          OnlyChanges s t [.tools, .roles, .pools, .stations, .notices, .cell, .marks] ∧ OnlyTools s t [u]
          ∧ OnlyRoles s t [⟨n, pos⟩, r] ∧ OnlyPools s t [q] ∧ OnlyStations s t [r.station]
          ∧ MarksOnly s t [.tool u, .role ⟨n, pos⟩] ∧ Replied t rest [0x80, 0x33, 0x00]
          ∧ t.role ⟨n, pos⟩ = ⟨{ (s.role ⟨n, pos⟩).record with current := none }, .empty⟩
          ∧ ServedTo s t u stored q before r after)
      ∧ ((s.role ⟨n, pos⟩).state = .needy → ((s.tool u).state = .worn ∨ (s.tool u).state = .broken) →
        Runs .toolUnmount s fun t =>
          OnlyChanges s t [.tools, .roles, .cell, .marks] ∧ OnlyTools s t [u] ∧ OnlyRoles s t [⟨n, pos⟩]
          ∧ MarksOnly s t [.tool u, .role ⟨n, pos⟩] ∧ Replied t rest [0x80, 0x33, 0x00]
          ∧ t.tool u = { s.tool u with state := .retired, link := none }
          ∧ t.role ⟨n, pos⟩ = ⟨{ (s.role ⟨n, pos⟩).record with current := none }, .empty⟩))

/-- R133, R137: Station Configure writes the six settings of an OFFLINE station and marks its record in every
case, with BAD_VALUE for a field out of its range; at any other station it is LOCKED. Station Halt halts a
station that is not OFFLINE for CELL, asks HALT and keeps its part, plans, window and order; at an OFFLINE
station it is WRONG_STATE. -/
def Obligations.ConfigureAndHalt : Prop :=
  ∀ (n : StationId) (p : Payload) (rest : List Payload) (s : State),
    (TakesRequest s p rest → p.headD 0 = 0x40 → p.length = 18 → field p 1 1 = n.val + 1 →
      (s.stationState n ≠ .offline → Runs .stationConfigure s fun t =>
        OnlyChanges s t [.cell, .marks] ∧ MarksOnly s t [] ∧ Replied t rest [0x80, 0x40, 0x07])
      ∧ let inRange := field p 2 2 ≤ 60000 ∧ field p 2 2 ≤ field p 4 4 ∧ field p 4 4 ≤ 120000
          ∧ 10 ≤ field p 8 2 ∧ field p 8 2 ≤ 7200 ∧ field p 10 2 ≤ 1000 ∧ field p 12 4 ≤ 1000000
          ∧ field p 16 2 ≤ 4000
        (s.stationState n = .offline → ¬ inRange → Runs .stationConfigure s fun t =>
          OnlyChanges s t [.cell, .marks] ∧ MarksOnly s t [] ∧ Replied t rest [0x80, 0x40, 0x03])
        ∧ (s.stationState n = .offline → inRange →
        Runs .stationConfigure s fun t =>
          OnlyChanges s t [.stations, .cell, .marks] ∧ OnlyStations s t [n] ∧ MarksOnly s t [.settings n]
          ∧ Replied t rest [0x80, 0x40, 0x00, 0x00]
          ∧ t.station n = { s.station n with control := { (s.station n).control with
              settings :=
              { gatherMs := field p 2 2, gatherMaxMs := field p 4 4, orderTimeoutS := field p 8 2,
                rideAlongDresses := field p 10 2, rideAlongWu := field p 12 4,
                restartCharge := field p 16 2 } } }))
    ∧ (TakesRequest s [0x43, BitVec.ofNat 8 (n.val + 1)] rest → s.stationState n = .offline →
      Runs .stationHalt s fun t =>
        OnlyChanges s t [.cell, .marks] ∧ MarksOnly s t [] ∧ Replied t rest [0x80, 0x43, 0x05])
    ∧ (TakesRequest s [0x43, BitVec.ofNat 8 (n.val + 1)] rest → s.stationState n ≠ .offline →
      Runs .stationHalt s fun t =>
        OnlyChanges s t [.stations, .links, .notices, .cell, .marks] ∧ OnlyStations s t [n]
        ∧ OnlyLinks s t [stationLink n] ∧ MarksOnly s t [] ∧ Replied t rest [0x80, 0x43, 0x00, 0x05]
        ∧ (t.station n).control.state = .halted ∧ (t.station n).control.cause = some .cell
        ∧ (t.station n).control.haltTool = none ∧ (t.station n).control.haltLine = true
        ∧ (t.station n).intake = (s.station n).intake ∧ (t.station n).plans = (s.station n).plans
        ∧ (t.station n).swap = (s.station n).swap ∧ ⟨n, .halt⟩ ∈ t.notices
        ∧ AskedState s t n (.halt .cell))

/-- R134, R135: Station Start of an OFFLINE station, here with no staged tool, is refused while the store is
FAILED or a current tool is OVERDUE, and without a tooled plan for the next part. Accepted, it clears the last
record number and makes the station READY with RELEASE, or HELD with HOLD and an ORDERED order where a role is NEEDY;
DRESS is then asked for the wheel positions that are DRESS_DUE, and waits behind the state directive. -/
def Obligations.StationStartOpensStation : Prop :=
  ∀ (n : StationId) (rest : List Payload) (s : State),
    TakesRequest s [0x41, BitVec.ofNat 8 (n.val + 1)] rest → s.stationState n = .offline →
    (∀ pos, (s.role ⟨n, pos⟩).record.staged = none) →
    let overdue := ∃ (pos : Pos) (u : ToolId), (s.role ⟨n, pos⟩).record.current = some u
      ∧ (s.tool u).flags.overdue = true
    let Dresses := fun t : State => ∃ due, DressDue s n due
      ∧ (t.station n).control.dressSlot = if due = [] then (s.station n).control.dressSlot else some due
    ((s.store.state = .failed ∨ overdue) → Runs .stationStart s fun t =>
      OnlyChanges s t [.cell, .marks] ∧ MarksOnly s t [] ∧ Replied t rest [0x80, 0x41, 0x05])
    ∧ (s.store.state = .ok → ¬ overdue →
      ((s.station n).plans.candidate = none → Runs .stationStart s fun t =>
        OnlyChanges s t [.cell, .marks] ∧ MarksOnly s t [] ∧ Replied t rest [0x80, 0x41, 0x04])
      ∧ ∀ plan b, (s.station n).plans.candidate = some (plan, b) →
        ((∃ x ∈ plan.steps, (s.role ⟨n, x.pos⟩).record.current = none) → Runs .stationStart s fun t =>
          OnlyChanges s t [.cell, .marks] ∧ MarksOnly s t [] ∧ Replied t rest [0x80, 0x41, 0x04])
        ∧ ((∀ x ∈ plan.steps, (s.role ⟨n, x.pos⟩).record.current ≠ none) →
          ((∀ pos, (s.role ⟨n, pos⟩).state ≠ .needy) → Runs .stationStart s fun t =>
            OnlyChanges s t [.stations, .links, .cell, .marks] ∧ OnlyStations s t [n]
            ∧ OnlyLinks s t [stationLink n] ∧ MarksOnly s t [] ∧ Replied t rest [0x80, 0x41, 0x00, 0x01]
            ∧ (t.station n).intake = { (s.station n).intake with lastNumber := none }
            ∧ (t.station n).plans = (s.station n).plans ∧ (t.station n).swap = (s.station n).swap
            ∧ t.stationState n = .ready ∧ AskedState s t n .release ∧ Dresses t)
          ∧ ((∃ pos, (s.role ⟨n, pos⟩).state = .needy) → Runs .stationStart s fun t =>
            Replied t rest [0x80, 0x41, 0x00, 0x04] ∧ t.stationState n = .held
            ∧ AskedState s t n .hold ∧ Dresses t
            ∧ (∃ o, (t.station n).swap.order = some o ∧ o.state = .ordered ∧ o.opened = s.timeBase
                ∧ EntriesFormed s t n [] o.entries)
            ∧ (t.station n).intake = { (s.station n).intake with lastNumber := none }
            ∧ (t.station n).plans = (s.station n).plans ∧ ⟨n, .swapOrder⟩ ∈ t.notices)))

/-- R136, R164, R165: Station Stop abandons a part in progress, a ONE_PART plan giving way to the return plan, flushes
the queue, withdraws the order with a SWAP_ORDER notice, cancels the window and makes the station OFFLINE with its
halt line released; at an OFFLINE station it is WRONG_STATE. The staged plan, the settings and the other counters are
kept. The withdrawal takes each WAITING entry's role out of its pool's queue, settles each role of a RESERVED or
WAITING entry by its current tool, and stores each RESERVED incoming tool again, where no role of another station
waits for it in its pool. Each role with a staged tool then adopts it: the outgoing tool is RETIRED and the staged one
in service with an empty history. Every other role stays as it is. Without an order no notice is queued and no other
station changes. -/
def Obligations.StationStopClosesStation : Prop :=
  ∀ (n : StationId) (rest : List Payload) (s : State),
    TakesRequest s [0x42, BitVec.ofNat 8 (n.val + 1)] rest →
    (s.stationState n = .offline → Runs .stationStop s fun t =>
      OnlyChanges s t [.cell, .marks] ∧ MarksOnly s t [] ∧ Replied t rest [0x80, 0x42, 0x05])
    ∧ (s.stationState n ≠ .offline → Runs .stationStop s fun t =>
      OnlyChanges s t [.tools, .histories, .roles, .pools, .stations, .links, .notices, .cell, .marks]
      ∧ OnlyLinks s t [stationLink n] ∧ Replied t rest [0x80, 0x42, 0x00, 0x00]
      ∧ (t.station n).control.state = .offline ∧ (t.station n).control.cause = none
      ∧ (t.station n).control.haltTool = none ∧ (t.station n).control.haltLine = false
      ∧ (t.station n).control.dressSlot = none
      ∧ (t.station n).control.settings = (s.station n).control.settings
      ∧ (t.station n).swap = { window := none, order := none }
      ∧ (t.station n).plans.staged = (s.station n).plans.staged
      ∧ (t.station n).intake.queue = [] ∧ (t.station n).intake.part = none
      ∧ (t.station n).intake.lastNumber = (s.station n).intake.lastNumber
      ∧ ((s.station n).intake.part = none → (t.station n).intake.counters = (s.station n).intake.counters)
      ∧ ((s.station n).intake.part ≠ none → (t.station n).intake.pointer = 0
          ∧ (t.station n).intake.counters = { (s.station n).intake.counters with
              abandoned := min 4294967295 ((s.station n).intake.counters.abandoned + 1) })
      ∧ (∀ pos, (t.role ⟨n, pos⟩).record.staged = none)
      ∧ AskedState s t n .hold
      ∧ ((s.station n).intake.part = none → (t.station n).plans = (s.station n).plans)
      ∧ (∀ a, (s.station n).intake.part ≠ none → (s.station n).plans.active = some a →
          (a.mode = .standing → (t.station n).plans = (s.station n).plans)
          ∧ (a.mode = .onePart → (t.station n).plans = { (s.station n).plans with
              active := (s.station n).plans.returned, returned := none }))
      ∧ ((s.station n).swap.order = none → t.notices = s.notices ∧ t.pools = s.pools ∧ OnlyStations s t [n])
      ∧ ((s.station n).swap.order ≠ none → ⟨n, .swapOrder⟩ ∈ t.notices)
      ∧ (RolesCoherent s →
        (∀ pos new, (s.role ⟨n, pos⟩).record.staged = some new →
          let wears := (s.tool new).lifeSpent
          t.role ⟨n, pos⟩ = ⟨{ (s.role ⟨n, pos⟩).record with current := some new, staged := none },
            if wears = true then .needy else .running⟩
          ∧ t.tool new = { s.tool new with
              state := if wears = true then .worn else .active, link := some ⟨⟨n, pos⟩, .current⟩ }
          ∧ t.history new = []
          ∧ ∀ old, (s.role ⟨n, pos⟩).record.current = some old →
              t.tool old = { s.tool old with state := .retired, link := none })
        ∧ (∀ pos, (s.role ⟨n, pos⟩).record.staged = none →
          (∀ o, (s.station n).swap.order = some o → ∀ e ∈ o.entries, e.pos = pos → e.state = .done) →
          t.role ⟨n, pos⟩ = s.role ⟨n, pos⟩)
        ∧ ∀ o, (s.station n).swap.order = some o → ∀ e ∈ o.entries,
          (e.state = .waiting → ∀ q, (s.role ⟨n, e.pos⟩).record.pool = some q → (⟨n, e.pos⟩ : RoleId) ∉ t.pool q)
          ∧ (e.state ≠ .done → (s.role ⟨n, e.pos⟩).record.staged = none →
            t.role ⟨n, e.pos⟩ = { s.role ⟨n, e.pos⟩ with
              state := if (s.tool e.outgoing).state = .active then .running else .needy })
          ∧ ∀ u, e.state = .reserved → e.incoming = some u →
            ((s.tool u).flags.pinned = true ∨ ∀ q, (s.tool u).pool = some q → ∀ r ∈ s.pool q, r.station ≠ n →
              ¬ ((s.tool u).kind = some (posKind r.pos)
                ∧ (s.role r).record.takeoverMin ≤ (s.tool u).lifeLeft)) →
            t.tool u = { s.tool u with state := .stored, link := none })
      ∧ ∀ m, m ≠ n → (t.station m).intake = (s.station m).intake ∧ (t.station m).plans = (s.station m).plans
          ∧ (t.station m).control = (s.station m).control)

/-- R139: Station Resume clears the halt and takes the station to the state its order and its part give it, with
an order formed first where a role is NEEDY and none is open; it is refused, and the halt stays, while the store
is FAILED or a current tool is OVERDUE. -/
def Obligations.StationResumeClearsHalt : Prop :=
  ∀ (n : StationId) (rest : List Payload) (s : State),
    TakesRequest s [0x44, BitVec.ofNat 8 (n.val + 1)] rest →
    let overdue := ∃ (pos : Pos) (u : ToolId), (s.role ⟨n, pos⟩).record.current = some u
      ∧ (s.tool u).flags.overdue = true
    let x := s.station n
    ((x.control.state ≠ .halted ∨ s.store.state = .failed ∨ overdue) → Runs .stationResume s fun t =>
      OnlyChanges s t [.cell, .marks] ∧ MarksOnly s t [] ∧ Replied t rest [0x80, 0x44, 0x05])
    ∧ (x.control.state = .halted → s.store.state = .ok → ¬ overdue →
      ((x.swap.order ≠ none ∨ ∀ pos, (s.role ⟨n, pos⟩).state ≠ .needy) → Runs .stationResume s fun t =>
        let next : StationState := match x.swap.order, x.intake.part with
          | some _, some _ => .stopping
          | some _, none => .held
          | none, some _ => .inPart
          | none, none => .ready
        OnlyChanges s t [.stations, .links, .cell, .marks] ∧ OnlyStations s t [n]
        ∧ OnlyLinks s t [stationLink n] ∧ MarksOnly s t []
        ∧ Replied t rest [0x80, 0x44, 0x00, BitVec.ofNat 8 next.code]
        ∧ t.stationState n = next ∧ (t.station n).control.cause = none
        ∧ (t.station n).control.haltTool = none ∧ (t.station n).control.haltLine = false
        ∧ (t.station n).control.settings = x.control.settings
        ∧ (t.station n).intake = x.intake ∧ (t.station n).plans = x.plans ∧ (t.station n).swap = x.swap
        ∧ AskedState s t n (if x.swap.order = none then .release else .hold))
      ∧ (x.swap.order = none → (∃ pos, (s.role ⟨n, pos⟩).state = .needy) → Runs .stationResume s fun t =>
        t.stationState n = (if x.intake.part = none then .held else .stopping) ∧ AskedState s t n .hold
        ∧ (t.station n).control.cause = none ∧ (t.station n).control.haltLine = false
        ∧ (∃ o, (t.station n).swap.order = some o ∧ o.state = .ordered ∧ o.opened = s.timeBase
            ∧ (x.swap.window = none → EntriesFormed s t n [] o.entries))
        ∧ (t.station n).swap.window = none ∧ (t.station n).intake = x.intake ∧ (t.station n).plans = x.plans
        ∧ ⟨n, .swapOrder⟩ ∈ t.notices))

/-- R155, R157: Swap Done confirms named RESERVED entries of an ORDERED order: each incoming tool and its role become
STAGED, the entry DONE, and the records of both marked. The order goes on while an entry is not DONE; else it
completes, HELD going to READY and STOPPING to IN_PART, each with RELEASE, and with a SWAP_ORDER notice. -/
def Obligations.SwapDoneStagesTools : Prop :=
  ∀ (n : StationId) (named : List (Pos × ToolId)) (o : Order) (rest : List Payload) (s : State),
    TakesRequest s (0x50 :: BitVec.ofNat 8 (n.val + 1) :: BitVec.ofNat 8 named.length
      :: named.map fun x => BitVec.ofNat 8 x.1.val) rest →
    (s.station n).swap.order = some o → o.state = .ordered → named ≠ [] →
    (named.map fun x => x.1).Nodup → (named.map fun x => x.2).Nodup →
    (∀ x ∈ named, ∃ e, o.entries.find? (fun e => e.pos == x.1) = some e ∧ e.state = .reserved
      ∧ e.incoming = some x.2) →
    Runs .swapDone s fun t =>
      let entries := o.entries.map fun e =>
        if e.pos ∈ named.map (fun x => x.1) then { e with state := .done } else e
      OnlyChanges s t [.tools, .roles, .stations, .links, .notices, .cell, .marks]
      ∧ OnlyTools s t (named.map fun x => x.2) ∧ OnlyRoles s t (named.map fun x => ⟨n, x.1⟩)
      ∧ OnlyStations s t [n] ∧ OnlyLinks s t [stationLink n] ∧ Replied t rest [0x80, 0x50, 0x00]
      ∧ MarksOnly s t (named.flatMap fun x => [.tool x.2, .role ⟨n, x.1⟩])
      ∧ (∀ x ∈ named, t.tool x.2 = { s.tool x.2 with link := some ⟨⟨n, x.1⟩, .staged⟩ }
          ∧ t.role ⟨n, x.1⟩ = ⟨{ (s.role ⟨n, x.1⟩).record with staged := some x.2 }, .staged⟩)
      ∧ (t.station n).intake = (s.station n).intake ∧ (t.station n).plans = (s.station n).plans
      ∧ (t.station n).swap.window = (s.station n).swap.window
      ∧ ((∃ e ∈ entries, e.state ≠ .done) →
          (t.station n).swap.order = some { o with entries := entries }
          ∧ (t.station n).control = (s.station n).control ∧ t.notices = s.notices ∧ t.links = s.links)
      ∧ ((∀ e ∈ entries, e.state = .done) →
          (t.station n).swap.order = none ∧ ⟨n, .swapOrder⟩ ∈ t.notices
          ∧ t.stationState n = (match s.stationState n with
            | .held => .ready
            | .stopping => .inPart
            | x => x)
          ∧ (if s.stationState n = .held ∨ s.stationState n = .stopping then AskedState s t n .release
              else t.links = s.links ∧ (t.station n).control = (s.station n).control))

/-- R156: Swap Refused returns the incoming tool of a RESERVED entry to the store PINNED and the role asks its
pool again: it takes the qualifying tool of least life, or waits at the end of the queue; a ride-along entry
whose tool is still ACTIVE is dropped where none qualifies, and its role is RUNNING again. -/
def Obligations.SwapRefusedChoosesAgain : Prop :=
  ∀ (n : StationId) (pos : Pos) (u : ToolId) (q : PoolId) (o : Order) (e : Entry) (rest : List Payload)
    (s : State),
    TakesRequest s [0x51, BitVec.ofNat 8 (n.val + 1), BitVec.ofNat 8 pos.val] rest →
    (s.station n).swap.order = some o → o.state = .ordered →
    o.entries.find? (fun x => x.pos == pos) = some e → e.state = .reserved → e.incoming = some u →
    (s.tool u).state = .reserved → (s.role ⟨n, pos⟩).record.pool = some q →
    let r : RoleId := ⟨n, pos⟩
    let rideAlong := e.reason = .rideAlong ∧ ∃ c, (s.role r).record.current = some c ∧ c ≠ u
      ∧ (s.tool c).state = .active
    let returned : ToolRecord := { s.tool u with
      state := .stored, link := none, flags := { (s.tool u).flags with pinned := true } }
    (∀ v, s.Qualifying r v →
      (∀ x, s.Qualifying r x → (s.tool v).lifeLeft < (s.tool x).lifeLeft
        ∨ ((s.tool v).lifeLeft = (s.tool x).lifeLeft ∧ v ≤ x)) →
      Runs .swapRefused s fun t =>
        OnlyChanges s t [.tools, .roles, .stations, .notices, .cell, .marks] ∧ OnlyTools s t [u, v]
        ∧ OnlyRoles s t [r] ∧ OnlyStations s t [n] ∧ Replied t rest [0x80, 0x51, 0x00]
        ∧ MarksOnly s t [.tool u, .tool v] ∧ t.tool u = returned
        ∧ t.tool v = { s.tool v with state := .reserved, link := some ⟨r, .reserved⟩ }
        ∧ t.role r = { s.role r with state := .reserved }
        ∧ (t.station n).swap.order = some { o with entries := o.entries.map fun x =>
            if x.pos = pos then { x with incoming := some v, state := .reserved } else x }
        ∧ ⟨n, .swapOrder⟩ ∈ t.notices)
    ∧ ((∀ v, ¬ s.Qualifying r v) → e.reason ≠ .rideAlong → Runs .swapRefused s fun t =>
        OnlyChanges s t [.tools, .roles, .pools, .stations, .notices, .cell, .marks] ∧ OnlyTools s t [u]
        ∧ OnlyRoles s t [r] ∧ OnlyPools s t [q] ∧ OnlyStations s t [n] ∧ Replied t rest [0x80, 0x51, 0x00]
        ∧ MarksOnly s t [.tool u] ∧ t.tool u = returned ∧ t.role r = { s.role r with state := .waiting }
        ∧ t.pool q = s.pool q ++ [r]
        ∧ (t.station n).swap.order = some { o with entries := o.entries.map fun x =>
            if x.pos = pos then { x with incoming := none, state := .waiting } else x }
        ∧ ⟨n, .swapOrder⟩ ∈ t.notices)
    ∧ ((∀ v, ¬ s.Qualifying r v) → rideAlong → Runs .swapRefused s fun t =>
        OnlyChanges s t [.tools, .roles, .stations, .links, .notices, .cell, .marks] ∧ OnlyTools s t [u]
        ∧ OnlyRoles s t [r] ∧ OnlyStations s t [n] ∧ Replied t rest [0x80, 0x51, 0x00]
        ∧ MarksOnly s t [.tool u] ∧ t.tool u = returned ∧ t.role r = { s.role r with state := .running }
        ∧ ⟨n, .swapOrder⟩ ∈ t.notices
        ∧ let left := o.entries.filter fun x => x.pos != pos
          (t.station n).swap.order =
            if ∃ x ∈ left, x.state ≠ .done then some { o with entries := left } else none)

/-- R154, R158, R159: Swap Defer makes an ORDERED order DEFERRED, where Swap Done, Swap Refused and Swap Defer are
answered DEFERRED; Swap Resume makes a DEFERRED order ORDERED again and reports it, and is WRONG_STATE for an
ORDERED one. Without an order both are answered NO_ORDER. -/
def Obligations.DeferAndResume : Prop :=
  ∀ (n : StationId) (rest : List Payload) (s : State),
    let deferRequest : Payload := [0x52, BitVec.ofNat 8 (n.val + 1)]
    let resumeRequest : Payload := [0x53, BitVec.ofNat 8 (n.val + 1)]
    (TakesRequest s deferRequest rest → (s.station n).swap.order = none → Runs .swapDefer s fun t =>
      OnlyChanges s t [.cell, .marks] ∧ MarksOnly s t [] ∧ Replied t rest [0x80, 0x52, 0x09])
    ∧ (TakesRequest s resumeRequest rest → (s.station n).swap.order = none → Runs .swapResume s fun t =>
      OnlyChanges s t [.cell, .marks] ∧ MarksOnly s t [] ∧ Replied t rest [0x80, 0x53, 0x09])
    ∧ ∀ o, (s.station n).swap.order = some o →
      (TakesRequest s deferRequest rest → o.state = .ordered → Runs .swapDefer s fun t =>
        OnlyChanges s t [.stations, .cell, .marks] ∧ OnlyStations s t [n] ∧ MarksOnly s t []
        ∧ Replied t rest [0x80, 0x52, 0x00]
        ∧ t.station n = { s.station n with swap := { (s.station n).swap with
            order := some { o with state := .deferred } } })
      ∧ (TakesRequest s resumeRequest rest → o.state = .deferred → Runs .swapResume s fun t =>
        OnlyChanges s t [.stations, .notices, .cell, .marks] ∧ OnlyStations s t [n] ∧ MarksOnly s t []
        ∧ Replied t rest [0x80, 0x53, 0x00] ∧ ⟨n, .swapOrder⟩ ∈ t.notices
        ∧ t.station n = { s.station n with swap := { (s.station n).swap with
            order := some { o with state := .ordered } } })
      ∧ (TakesRequest s resumeRequest rest → o.state = .ordered → Runs .swapResume s fun t =>
        OnlyChanges s t [.cell, .marks] ∧ MarksOnly s t [] ∧ Replied t rest [0x80, 0x53, 0x05])
      ∧ (TakesRequest s deferRequest rest → o.state = .deferred → Runs .swapDefer s fun t =>
        OnlyChanges s t [.cell, .marks] ∧ MarksOnly s t [] ∧ Replied t rest [0x80, 0x52, 0x0A])
      ∧ ∀ pos : Pos, o.state = .deferred →
        (TakesRequest s [0x50, BitVec.ofNat 8 (n.val + 1), 0x01, BitVec.ofNat 8 pos.val] rest →
          Runs .swapDone s fun t =>
            OnlyChanges s t [.cell, .marks] ∧ MarksOnly s t [] ∧ Replied t rest [0x80, 0x50, 0x0A])
        ∧ (TakesRequest s [0x51, BitVec.ofNat 8 (n.val + 1), BitVec.ofNat 8 pos.val] rest →
          Runs .swapRefused s fun t =>
            OnlyChanges s t [.cell, .marks] ∧ MarksOnly s t [] ∧ Replied t rest [0x80, 0x51, 0x0A])

/-! ### Invariants -/

/-- R118, R129: every step keeps every queue within its bound and every directive asked or sent in its form, and keeps
it that no role stands twice in a waiting queue, that a queue holds only WAITING roles of its own pool, and that
roles, tools, windows and orders fit each other; the eight waiting queues then hold at most 40 roles together. -/
def Obligations.StepKeepsQueuesBounded : Prop :=
  (∀ s t : State, QueuesBounded s → step s = .next t → QueuesBounded t)
  ∧ (∀ s t : State, DirectivesFormed s → step s = .next t → DirectivesFormed t)
  ∧ (∀ s t : State, StationsCoherent s → RolesCoherent s → step s = .next t → RolesCoherent t)
  ∧ ∀ s : State, RolesCoherent s → ((List.finRange 8).map fun p => (s.pool p).length).sum ≤ 40

/-- Every step keeps the values of every tool record, live, stored or being written, in their ranges. -/
def Obligations.StepKeepsToolsInRange : Prop :=
  ∀ s t : State, ToolsInRange s → step s = .next t → ToolsInRange t

/-- Every step keeps every station coherent: halt line, halt cause, part in progress, window, order and plan
slots fit the station's state. -/
def Obligations.StepKeepsStationsCoherent : Prop :=
  ∀ s t : State, StationsCoherent s → step s = .next t → StationsCoherent t

/-- Every step keeps it that no stored tool, role or settings record differs from its live copy unless it is
marked or its write is in flight with the live content (R188), and, of coherent stations, that the standing plan the
store holds or is writing is the station's own unless the plan record is marked (R50). -/
def Obligations.StepKeepsStoreFollows : Prop :=
  (∀ s t : State, StoreFollows s → step s = .next t → StoreFollows t)
  ∧ ∀ s t : State, StationsCoherent s → PlansFollow s → step s = .next t → PlansFollow t

/-- The state right after reset meets the seven invariants. -/
def Obligations.ResetMeetsInvariants : Prop :=
  QueuesBounded State.reset ∧ DirectivesFormed State.reset ∧ ToolsInRange State.reset ∧ StationsCoherent State.reset
    ∧ StoreFollows State.reset ∧ RolesCoherent State.reset ∧ PlansFollow State.reset
end

