-- ==== Sys2Proof/Laws/State.lean ====
section
/-!
SUPPORT. The state under its plain updates: what each update leaves, field by field, and what reading one
tool, history, role, pool, station or link gives after it. Later proofs cite these and unfold no update.
-/

namespace Sys2Proof.Machine

/-! ### Fields that an update leaves -/

@[simp] theorem State.setHistory_powered (s : State) (t : ToolId) (h : List Verdict) :
    (s.setHistory t h).powered = s.powered := rfl
@[simp] theorem State.setHistory_timeBase (s : State) (t : ToolId) (h : List Verdict) :
    (s.setHistory t h).timeBase = s.timeBase := rfl
@[simp] theorem State.setHistory_tools (s : State) (t : ToolId) (h : List Verdict) :
    (s.setHistory t h).tools = s.tools := rfl
@[simp] theorem State.setHistory_roles (s : State) (t : ToolId) (h : List Verdict) :
    (s.setHistory t h).roles = s.roles := rfl
@[simp] theorem State.setHistory_pools (s : State) (t : ToolId) (h : List Verdict) :
    (s.setHistory t h).pools = s.pools := rfl
@[simp] theorem State.setHistory_stations (s : State) (t : ToolId) (h : List Verdict) :
    (s.setHistory t h).stations = s.stations := rfl
@[simp] theorem State.setHistory_cell (s : State) (t : ToolId) (h : List Verdict) :
    (s.setHistory t h).cell = s.cell := rfl
@[simp] theorem State.setHistory_notices (s : State) (t : ToolId) (h : List Verdict) :
    (s.setHistory t h).notices = s.notices := rfl
@[simp] theorem State.setHistory_links (s : State) (t : ToolId) (h : List Verdict) :
    (s.setHistory t h).links = s.links := rfl
@[simp] theorem State.setHistory_copies (s : State) (t : ToolId) (h : List Verdict) :
    (s.setHistory t h).copies = s.copies := rfl
@[simp] theorem State.setHistory_store (s : State) (t : ToolId) (h : List Verdict) :
    (s.setHistory t h).store = s.store := rfl
@[simp] theorem State.setHistory_pending (s : State) (t : ToolId) (h : List Verdict) :
    (s.setHistory t h).pending = s.pending := rfl

@[simp] theorem State.setStation_powered (s : State) (n : StationId) (x : Station) :
    (s.setStation n x).powered = s.powered := rfl
@[simp] theorem State.setStation_timeBase (s : State) (n : StationId) (x : Station) :
    (s.setStation n x).timeBase = s.timeBase := rfl
@[simp] theorem State.setStation_tools (s : State) (n : StationId) (x : Station) :
    (s.setStation n x).tools = s.tools := rfl
@[simp] theorem State.setStation_histories (s : State) (n : StationId) (x : Station) :
    (s.setStation n x).histories = s.histories := rfl
@[simp] theorem State.setStation_roles (s : State) (n : StationId) (x : Station) :
    (s.setStation n x).roles = s.roles := rfl
@[simp] theorem State.setStation_pools (s : State) (n : StationId) (x : Station) :
    (s.setStation n x).pools = s.pools := rfl
@[simp] theorem State.setStation_cell (s : State) (n : StationId) (x : Station) :
    (s.setStation n x).cell = s.cell := rfl
@[simp] theorem State.setStation_notices (s : State) (n : StationId) (x : Station) :
    (s.setStation n x).notices = s.notices := rfl
@[simp] theorem State.setStation_links (s : State) (n : StationId) (x : Station) :
    (s.setStation n x).links = s.links := rfl
@[simp] theorem State.setStation_copies (s : State) (n : StationId) (x : Station) :
    (s.setStation n x).copies = s.copies := rfl
@[simp] theorem State.setStation_store (s : State) (n : StationId) (x : Station) :
    (s.setStation n x).store = s.store := rfl
@[simp] theorem State.setStation_pending (s : State) (n : StationId) (x : Station) :
    (s.setStation n x).pending = s.pending := rfl

@[simp] theorem State.setLink_powered (s : State) (l : LinkId) (x : Link) :
    (s.setLink l x).powered = s.powered := rfl
@[simp] theorem State.setLink_timeBase (s : State) (l : LinkId) (x : Link) :
    (s.setLink l x).timeBase = s.timeBase := rfl
@[simp] theorem State.setLink_tools (s : State) (l : LinkId) (x : Link) :
    (s.setLink l x).tools = s.tools := rfl
@[simp] theorem State.setLink_histories (s : State) (l : LinkId) (x : Link) :
    (s.setLink l x).histories = s.histories := rfl
@[simp] theorem State.setLink_roles (s : State) (l : LinkId) (x : Link) :
    (s.setLink l x).roles = s.roles := rfl
@[simp] theorem State.setLink_pools (s : State) (l : LinkId) (x : Link) :
    (s.setLink l x).pools = s.pools := rfl
@[simp] theorem State.setLink_stations (s : State) (l : LinkId) (x : Link) :
    (s.setLink l x).stations = s.stations := rfl
@[simp] theorem State.setLink_cell (s : State) (l : LinkId) (x : Link) :
    (s.setLink l x).cell = s.cell := rfl
@[simp] theorem State.setLink_notices (s : State) (l : LinkId) (x : Link) :
    (s.setLink l x).notices = s.notices := rfl
@[simp] theorem State.setLink_copies (s : State) (l : LinkId) (x : Link) :
    (s.setLink l x).copies = s.copies := rfl
@[simp] theorem State.setLink_store (s : State) (l : LinkId) (x : Link) :
    (s.setLink l x).store = s.store := rfl
@[simp] theorem State.setLink_pending (s : State) (l : LinkId) (x : Link) :
    (s.setLink l x).pending = s.pending := rfl

@[simp] theorem State.setPool_powered (s : State) (p : PoolId) (q : List RoleId) :
    (s.setPool p q).powered = s.powered := rfl
@[simp] theorem State.setPool_timeBase (s : State) (p : PoolId) (q : List RoleId) :
    (s.setPool p q).timeBase = s.timeBase := rfl
@[simp] theorem State.setPool_tools (s : State) (p : PoolId) (q : List RoleId) :
    (s.setPool p q).tools = s.tools := rfl
@[simp] theorem State.setPool_histories (s : State) (p : PoolId) (q : List RoleId) :
    (s.setPool p q).histories = s.histories := rfl
@[simp] theorem State.setPool_roles (s : State) (p : PoolId) (q : List RoleId) :
    (s.setPool p q).roles = s.roles := rfl
@[simp] theorem State.setPool_stations (s : State) (p : PoolId) (q : List RoleId) :
    (s.setPool p q).stations = s.stations := rfl
@[simp] theorem State.setPool_cell (s : State) (p : PoolId) (q : List RoleId) :
    (s.setPool p q).cell = s.cell := rfl
@[simp] theorem State.setPool_notices (s : State) (p : PoolId) (q : List RoleId) :
    (s.setPool p q).notices = s.notices := rfl
@[simp] theorem State.setPool_links (s : State) (p : PoolId) (q : List RoleId) :
    (s.setPool p q).links = s.links := rfl
@[simp] theorem State.setPool_copies (s : State) (p : PoolId) (q : List RoleId) :
    (s.setPool p q).copies = s.copies := rfl
@[simp] theorem State.setPool_store (s : State) (p : PoolId) (q : List RoleId) :
    (s.setPool p q).store = s.store := rfl
@[simp] theorem State.setPool_pending (s : State) (p : PoolId) (q : List RoleId) :
    (s.setPool p q).pending = s.pending := rfl

@[simp] theorem State.setRole_powered (s : State) (r : RoleId) (x : Role) :
    (s.setRole r x).powered = s.powered := rfl
@[simp] theorem State.setRole_timeBase (s : State) (r : RoleId) (x : Role) :
    (s.setRole r x).timeBase = s.timeBase := rfl
@[simp] theorem State.setRole_tools (s : State) (r : RoleId) (x : Role) :
    (s.setRole r x).tools = s.tools := rfl
@[simp] theorem State.setRole_histories (s : State) (r : RoleId) (x : Role) :
    (s.setRole r x).histories = s.histories := rfl
@[simp] theorem State.setRole_pools (s : State) (r : RoleId) (x : Role) :
    (s.setRole r x).pools = s.pools := rfl
@[simp] theorem State.setRole_stations (s : State) (r : RoleId) (x : Role) :
    (s.setRole r x).stations = s.stations := rfl
@[simp] theorem State.setRole_cell (s : State) (r : RoleId) (x : Role) :
    (s.setRole r x).cell = s.cell := rfl
@[simp] theorem State.setRole_notices (s : State) (r : RoleId) (x : Role) :
    (s.setRole r x).notices = s.notices := rfl
@[simp] theorem State.setRole_links (s : State) (r : RoleId) (x : Role) :
    (s.setRole r x).links = s.links := rfl
@[simp] theorem State.setRole_copies (s : State) (r : RoleId) (x : Role) :
    (s.setRole r x).copies = s.copies := rfl
@[simp] theorem State.setRole_store (s : State) (r : RoleId) (x : Role) :
    (s.setRole r x).store = s.store := rfl
@[simp] theorem State.setRole_pending (s : State) (r : RoleId) (x : Role) :
    (s.setRole r x).pending = s.pending := rfl

@[simp] theorem State.setRoleState_powered (s : State) (r : RoleId) (x : RoleState) :
    (s.setRoleState r x).powered = s.powered := rfl
@[simp] theorem State.setRoleState_timeBase (s : State) (r : RoleId) (x : RoleState) :
    (s.setRoleState r x).timeBase = s.timeBase := rfl
@[simp] theorem State.setRoleState_tools (s : State) (r : RoleId) (x : RoleState) :
    (s.setRoleState r x).tools = s.tools := rfl
@[simp] theorem State.setRoleState_histories (s : State) (r : RoleId) (x : RoleState) :
    (s.setRoleState r x).histories = s.histories := rfl
@[simp] theorem State.setRoleState_pools (s : State) (r : RoleId) (x : RoleState) :
    (s.setRoleState r x).pools = s.pools := rfl
@[simp] theorem State.setRoleState_stations (s : State) (r : RoleId) (x : RoleState) :
    (s.setRoleState r x).stations = s.stations := rfl
@[simp] theorem State.setRoleState_cell (s : State) (r : RoleId) (x : RoleState) :
    (s.setRoleState r x).cell = s.cell := rfl
@[simp] theorem State.setRoleState_notices (s : State) (r : RoleId) (x : RoleState) :
    (s.setRoleState r x).notices = s.notices := rfl
@[simp] theorem State.setRoleState_links (s : State) (r : RoleId) (x : RoleState) :
    (s.setRoleState r x).links = s.links := rfl
@[simp] theorem State.setRoleState_copies (s : State) (r : RoleId) (x : RoleState) :
    (s.setRoleState r x).copies = s.copies := rfl
@[simp] theorem State.setRoleState_store (s : State) (r : RoleId) (x : RoleState) :
    (s.setRoleState r x).store = s.store := rfl
@[simp] theorem State.setRoleState_pending (s : State) (r : RoleId) (x : RoleState) :
    (s.setRoleState r x).pending = s.pending := rfl

@[simp] theorem State.setIntake_powered (s : State) (n : StationId) (x : Intake) :
    (s.setIntake n x).powered = s.powered := rfl
@[simp] theorem State.setIntake_timeBase (s : State) (n : StationId) (x : Intake) :
    (s.setIntake n x).timeBase = s.timeBase := rfl
@[simp] theorem State.setIntake_tools (s : State) (n : StationId) (x : Intake) :
    (s.setIntake n x).tools = s.tools := rfl
@[simp] theorem State.setIntake_histories (s : State) (n : StationId) (x : Intake) :
    (s.setIntake n x).histories = s.histories := rfl
@[simp] theorem State.setIntake_roles (s : State) (n : StationId) (x : Intake) :
    (s.setIntake n x).roles = s.roles := rfl
@[simp] theorem State.setIntake_pools (s : State) (n : StationId) (x : Intake) :
    (s.setIntake n x).pools = s.pools := rfl
@[simp] theorem State.setIntake_cell (s : State) (n : StationId) (x : Intake) :
    (s.setIntake n x).cell = s.cell := rfl
@[simp] theorem State.setIntake_notices (s : State) (n : StationId) (x : Intake) :
    (s.setIntake n x).notices = s.notices := rfl
@[simp] theorem State.setIntake_links (s : State) (n : StationId) (x : Intake) :
    (s.setIntake n x).links = s.links := rfl
@[simp] theorem State.setIntake_copies (s : State) (n : StationId) (x : Intake) :
    (s.setIntake n x).copies = s.copies := rfl
@[simp] theorem State.setIntake_store (s : State) (n : StationId) (x : Intake) :
    (s.setIntake n x).store = s.store := rfl
@[simp] theorem State.setIntake_pending (s : State) (n : StationId) (x : Intake) :
    (s.setIntake n x).pending = s.pending := rfl

@[simp] theorem State.setPlans_powered (s : State) (n : StationId) (x : PlanSlots) :
    (s.setPlans n x).powered = s.powered := rfl
@[simp] theorem State.setPlans_timeBase (s : State) (n : StationId) (x : PlanSlots) :
    (s.setPlans n x).timeBase = s.timeBase := rfl
@[simp] theorem State.setPlans_tools (s : State) (n : StationId) (x : PlanSlots) :
    (s.setPlans n x).tools = s.tools := rfl
@[simp] theorem State.setPlans_histories (s : State) (n : StationId) (x : PlanSlots) :
    (s.setPlans n x).histories = s.histories := rfl
@[simp] theorem State.setPlans_roles (s : State) (n : StationId) (x : PlanSlots) :
    (s.setPlans n x).roles = s.roles := rfl
@[simp] theorem State.setPlans_pools (s : State) (n : StationId) (x : PlanSlots) :
    (s.setPlans n x).pools = s.pools := rfl
@[simp] theorem State.setPlans_cell (s : State) (n : StationId) (x : PlanSlots) :
    (s.setPlans n x).cell = s.cell := rfl
@[simp] theorem State.setPlans_notices (s : State) (n : StationId) (x : PlanSlots) :
    (s.setPlans n x).notices = s.notices := rfl
@[simp] theorem State.setPlans_links (s : State) (n : StationId) (x : PlanSlots) :
    (s.setPlans n x).links = s.links := rfl
@[simp] theorem State.setPlans_copies (s : State) (n : StationId) (x : PlanSlots) :
    (s.setPlans n x).copies = s.copies := rfl
@[simp] theorem State.setPlans_store (s : State) (n : StationId) (x : PlanSlots) :
    (s.setPlans n x).store = s.store := rfl
@[simp] theorem State.setPlans_pending (s : State) (n : StationId) (x : PlanSlots) :
    (s.setPlans n x).pending = s.pending := rfl

@[simp] theorem State.setControl_powered (s : State) (n : StationId) (x : Control) :
    (s.setControl n x).powered = s.powered := rfl
@[simp] theorem State.setControl_timeBase (s : State) (n : StationId) (x : Control) :
    (s.setControl n x).timeBase = s.timeBase := rfl
@[simp] theorem State.setControl_tools (s : State) (n : StationId) (x : Control) :
    (s.setControl n x).tools = s.tools := rfl
@[simp] theorem State.setControl_histories (s : State) (n : StationId) (x : Control) :
    (s.setControl n x).histories = s.histories := rfl
@[simp] theorem State.setControl_roles (s : State) (n : StationId) (x : Control) :
    (s.setControl n x).roles = s.roles := rfl
@[simp] theorem State.setControl_pools (s : State) (n : StationId) (x : Control) :
    (s.setControl n x).pools = s.pools := rfl
@[simp] theorem State.setControl_cell (s : State) (n : StationId) (x : Control) :
    (s.setControl n x).cell = s.cell := rfl
@[simp] theorem State.setControl_notices (s : State) (n : StationId) (x : Control) :
    (s.setControl n x).notices = s.notices := rfl
@[simp] theorem State.setControl_links (s : State) (n : StationId) (x : Control) :
    (s.setControl n x).links = s.links := rfl
@[simp] theorem State.setControl_copies (s : State) (n : StationId) (x : Control) :
    (s.setControl n x).copies = s.copies := rfl
@[simp] theorem State.setControl_store (s : State) (n : StationId) (x : Control) :
    (s.setControl n x).store = s.store := rfl
@[simp] theorem State.setControl_pending (s : State) (n : StationId) (x : Control) :
    (s.setControl n x).pending = s.pending := rfl

@[simp] theorem State.setSwap_powered (s : State) (n : StationId) (x : Swap) :
    (s.setSwap n x).powered = s.powered := rfl
@[simp] theorem State.setSwap_timeBase (s : State) (n : StationId) (x : Swap) :
    (s.setSwap n x).timeBase = s.timeBase := rfl
@[simp] theorem State.setSwap_tools (s : State) (n : StationId) (x : Swap) :
    (s.setSwap n x).tools = s.tools := rfl
@[simp] theorem State.setSwap_histories (s : State) (n : StationId) (x : Swap) :
    (s.setSwap n x).histories = s.histories := rfl
@[simp] theorem State.setSwap_roles (s : State) (n : StationId) (x : Swap) :
    (s.setSwap n x).roles = s.roles := rfl
@[simp] theorem State.setSwap_pools (s : State) (n : StationId) (x : Swap) :
    (s.setSwap n x).pools = s.pools := rfl
@[simp] theorem State.setSwap_cell (s : State) (n : StationId) (x : Swap) :
    (s.setSwap n x).cell = s.cell := rfl
@[simp] theorem State.setSwap_notices (s : State) (n : StationId) (x : Swap) :
    (s.setSwap n x).notices = s.notices := rfl
@[simp] theorem State.setSwap_links (s : State) (n : StationId) (x : Swap) :
    (s.setSwap n x).links = s.links := rfl
@[simp] theorem State.setSwap_copies (s : State) (n : StationId) (x : Swap) :
    (s.setSwap n x).copies = s.copies := rfl
@[simp] theorem State.setSwap_store (s : State) (n : StationId) (x : Swap) :
    (s.setSwap n x).store = s.store := rfl
@[simp] theorem State.setSwap_pending (s : State) (n : StationId) (x : Swap) :
    (s.setSwap n x).pending = s.pending := rfl

@[simp] theorem State.setStationState_powered (s : State) (n : StationId) (x : StationState) :
    (s.setStationState n x).powered = s.powered := rfl
@[simp] theorem State.setStationState_timeBase (s : State) (n : StationId) (x : StationState) :
    (s.setStationState n x).timeBase = s.timeBase := rfl
@[simp] theorem State.setStationState_tools (s : State) (n : StationId) (x : StationState) :
    (s.setStationState n x).tools = s.tools := rfl
@[simp] theorem State.setStationState_histories (s : State) (n : StationId) (x : StationState) :
    (s.setStationState n x).histories = s.histories := rfl
@[simp] theorem State.setStationState_roles (s : State) (n : StationId) (x : StationState) :
    (s.setStationState n x).roles = s.roles := rfl
@[simp] theorem State.setStationState_pools (s : State) (n : StationId) (x : StationState) :
    (s.setStationState n x).pools = s.pools := rfl
@[simp] theorem State.setStationState_cell (s : State) (n : StationId) (x : StationState) :
    (s.setStationState n x).cell = s.cell := rfl
@[simp] theorem State.setStationState_notices (s : State) (n : StationId) (x : StationState) :
    (s.setStationState n x).notices = s.notices := rfl
@[simp] theorem State.setStationState_links (s : State) (n : StationId) (x : StationState) :
    (s.setStationState n x).links = s.links := rfl
@[simp] theorem State.setStationState_copies (s : State) (n : StationId) (x : StationState) :
    (s.setStationState n x).copies = s.copies := rfl
@[simp] theorem State.setStationState_store (s : State) (n : StationId) (x : StationState) :
    (s.setStationState n x).store = s.store := rfl
@[simp] theorem State.setStationState_pending (s : State) (n : StationId) (x : StationState) :
    (s.setStationState n x).pending = s.pending := rfl

@[simp] theorem State.setCounters_powered (s : State) (n : StationId) (x : Counters) :
    (s.setCounters n x).powered = s.powered := rfl
@[simp] theorem State.setCounters_timeBase (s : State) (n : StationId) (x : Counters) :
    (s.setCounters n x).timeBase = s.timeBase := rfl
@[simp] theorem State.setCounters_tools (s : State) (n : StationId) (x : Counters) :
    (s.setCounters n x).tools = s.tools := rfl
@[simp] theorem State.setCounters_histories (s : State) (n : StationId) (x : Counters) :
    (s.setCounters n x).histories = s.histories := rfl
@[simp] theorem State.setCounters_roles (s : State) (n : StationId) (x : Counters) :
    (s.setCounters n x).roles = s.roles := rfl
@[simp] theorem State.setCounters_pools (s : State) (n : StationId) (x : Counters) :
    (s.setCounters n x).pools = s.pools := rfl
@[simp] theorem State.setCounters_cell (s : State) (n : StationId) (x : Counters) :
    (s.setCounters n x).cell = s.cell := rfl
@[simp] theorem State.setCounters_notices (s : State) (n : StationId) (x : Counters) :
    (s.setCounters n x).notices = s.notices := rfl
@[simp] theorem State.setCounters_links (s : State) (n : StationId) (x : Counters) :
    (s.setCounters n x).links = s.links := rfl
@[simp] theorem State.setCounters_copies (s : State) (n : StationId) (x : Counters) :
    (s.setCounters n x).copies = s.copies := rfl
@[simp] theorem State.setCounters_store (s : State) (n : StationId) (x : Counters) :
    (s.setCounters n x).store = s.store := rfl
@[simp] theorem State.setCounters_pending (s : State) (n : StationId) (x : Counters) :
    (s.setCounters n x).pending = s.pending := rfl

@[simp] theorem State.countRefused_powered (s : State) (n : StationId) :
    (s.countRefused n).powered = s.powered := rfl
@[simp] theorem State.countRefused_timeBase (s : State) (n : StationId) :
    (s.countRefused n).timeBase = s.timeBase := rfl
@[simp] theorem State.countRefused_tools (s : State) (n : StationId) :
    (s.countRefused n).tools = s.tools := rfl
@[simp] theorem State.countRefused_histories (s : State) (n : StationId) :
    (s.countRefused n).histories = s.histories := rfl
@[simp] theorem State.countRefused_roles (s : State) (n : StationId) :
    (s.countRefused n).roles = s.roles := rfl
@[simp] theorem State.countRefused_pools (s : State) (n : StationId) :
    (s.countRefused n).pools = s.pools := rfl
@[simp] theorem State.countRefused_cell (s : State) (n : StationId) :
    (s.countRefused n).cell = s.cell := rfl
@[simp] theorem State.countRefused_notices (s : State) (n : StationId) :
    (s.countRefused n).notices = s.notices := rfl
@[simp] theorem State.countRefused_links (s : State) (n : StationId) :
    (s.countRefused n).links = s.links := rfl
@[simp] theorem State.countRefused_copies (s : State) (n : StationId) :
    (s.countRefused n).copies = s.copies := rfl
@[simp] theorem State.countRefused_store (s : State) (n : StationId) :
    (s.countRefused n).store = s.store := rfl
@[simp] theorem State.countRefused_pending (s : State) (n : StationId) :
    (s.countRefused n).pending = s.pending := rfl

@[simp] theorem State.mapEntries_powered (s : State) (n : StationId) (f : List Entry → List Entry) :
    (s.mapEntries n f).powered = s.powered := rfl
@[simp] theorem State.mapEntries_timeBase (s : State) (n : StationId) (f : List Entry → List Entry) :
    (s.mapEntries n f).timeBase = s.timeBase := rfl
@[simp] theorem State.mapEntries_tools (s : State) (n : StationId) (f : List Entry → List Entry) :
    (s.mapEntries n f).tools = s.tools := rfl
@[simp] theorem State.mapEntries_histories (s : State) (n : StationId) (f : List Entry → List Entry) :
    (s.mapEntries n f).histories = s.histories := rfl
@[simp] theorem State.mapEntries_roles (s : State) (n : StationId) (f : List Entry → List Entry) :
    (s.mapEntries n f).roles = s.roles := rfl
@[simp] theorem State.mapEntries_pools (s : State) (n : StationId) (f : List Entry → List Entry) :
    (s.mapEntries n f).pools = s.pools := rfl
@[simp] theorem State.mapEntries_cell (s : State) (n : StationId) (f : List Entry → List Entry) :
    (s.mapEntries n f).cell = s.cell := rfl
@[simp] theorem State.mapEntries_notices (s : State) (n : StationId) (f : List Entry → List Entry) :
    (s.mapEntries n f).notices = s.notices := rfl
@[simp] theorem State.mapEntries_links (s : State) (n : StationId) (f : List Entry → List Entry) :
    (s.mapEntries n f).links = s.links := rfl
@[simp] theorem State.mapEntries_copies (s : State) (n : StationId) (f : List Entry → List Entry) :
    (s.mapEntries n f).copies = s.copies := rfl
@[simp] theorem State.mapEntries_store (s : State) (n : StationId) (f : List Entry → List Entry) :
    (s.mapEntries n f).store = s.store := rfl
@[simp] theorem State.mapEntries_pending (s : State) (n : StationId) (f : List Entry → List Entry) :
    (s.mapEntries n f).pending = s.pending := rfl

@[simp] theorem State.mark_powered (s : State) (id : RecordId) :
    (s.mark id).powered = s.powered := rfl
@[simp] theorem State.mark_timeBase (s : State) (id : RecordId) :
    (s.mark id).timeBase = s.timeBase := rfl
@[simp] theorem State.mark_tools (s : State) (id : RecordId) :
    (s.mark id).tools = s.tools := rfl
@[simp] theorem State.mark_histories (s : State) (id : RecordId) :
    (s.mark id).histories = s.histories := rfl
@[simp] theorem State.mark_roles (s : State) (id : RecordId) :
    (s.mark id).roles = s.roles := rfl
@[simp] theorem State.mark_pools (s : State) (id : RecordId) :
    (s.mark id).pools = s.pools := rfl
@[simp] theorem State.mark_stations (s : State) (id : RecordId) :
    (s.mark id).stations = s.stations := rfl
@[simp] theorem State.mark_cell (s : State) (id : RecordId) :
    (s.mark id).cell = s.cell := rfl
@[simp] theorem State.mark_notices (s : State) (id : RecordId) :
    (s.mark id).notices = s.notices := rfl
@[simp] theorem State.mark_links (s : State) (id : RecordId) :
    (s.mark id).links = s.links := rfl
@[simp] theorem State.mark_copies (s : State) (id : RecordId) :
    (s.mark id).copies = s.copies := rfl
@[simp] theorem State.mark_pending (s : State) (id : RecordId) :
    (s.mark id).pending = s.pending := rfl

@[simp] theorem State.transmit_powered (s : State) (l : LinkId) (i : TxItem) :
    (s.transmit l i).powered = s.powered := rfl
@[simp] theorem State.transmit_timeBase (s : State) (l : LinkId) (i : TxItem) :
    (s.transmit l i).timeBase = s.timeBase := rfl
@[simp] theorem State.transmit_tools (s : State) (l : LinkId) (i : TxItem) :
    (s.transmit l i).tools = s.tools := rfl
@[simp] theorem State.transmit_histories (s : State) (l : LinkId) (i : TxItem) :
    (s.transmit l i).histories = s.histories := rfl
@[simp] theorem State.transmit_roles (s : State) (l : LinkId) (i : TxItem) :
    (s.transmit l i).roles = s.roles := rfl
@[simp] theorem State.transmit_pools (s : State) (l : LinkId) (i : TxItem) :
    (s.transmit l i).pools = s.pools := rfl
@[simp] theorem State.transmit_stations (s : State) (l : LinkId) (i : TxItem) :
    (s.transmit l i).stations = s.stations := rfl
@[simp] theorem State.transmit_cell (s : State) (l : LinkId) (i : TxItem) :
    (s.transmit l i).cell = s.cell := rfl
@[simp] theorem State.transmit_notices (s : State) (l : LinkId) (i : TxItem) :
    (s.transmit l i).notices = s.notices := rfl
@[simp] theorem State.transmit_copies (s : State) (l : LinkId) (i : TxItem) :
    (s.transmit l i).copies = s.copies := rfl
@[simp] theorem State.transmit_store (s : State) (l : LinkId) (i : TxItem) :
    (s.transmit l i).store = s.store := rfl
@[simp] theorem State.transmit_pending (s : State) (l : LinkId) (i : TxItem) :
    (s.transmit l i).pending = s.pending := rfl

/-! ### Readings that an update leaves -/

@[simp] theorem State.setHistory_tool (s : State) (t : ToolId) (h : List Verdict) (u : ToolId) :
    (s.setHistory t h).tool u = s.tool u := rfl
@[simp] theorem State.setHistory_role (s : State) (t : ToolId) (h : List Verdict) (q : RoleId) :
    (s.setHistory t h).role q = s.role q := rfl
@[simp] theorem State.setHistory_pool (s : State) (t : ToolId) (h : List Verdict) (q : PoolId) :
    (s.setHistory t h).pool q = s.pool q := rfl
@[simp] theorem State.setHistory_station (s : State) (t : ToolId) (h : List Verdict) (m : StationId) :
    (s.setHistory t h).station m = s.station m := rfl
@[simp] theorem State.setHistory_link (s : State) (t : ToolId) (h : List Verdict) (k : LinkId) :
    (s.setHistory t h).link k = s.link k := rfl

@[simp] theorem State.setStation_tool (s : State) (n : StationId) (x : Station) (u : ToolId) :
    (s.setStation n x).tool u = s.tool u := rfl
@[simp] theorem State.setStation_history (s : State) (n : StationId) (x : Station) (u : ToolId) :
    (s.setStation n x).history u = s.history u := rfl
@[simp] theorem State.setStation_role (s : State) (n : StationId) (x : Station) (q : RoleId) :
    (s.setStation n x).role q = s.role q := rfl
@[simp] theorem State.setStation_pool (s : State) (n : StationId) (x : Station) (q : PoolId) :
    (s.setStation n x).pool q = s.pool q := rfl
@[simp] theorem State.setStation_link (s : State) (n : StationId) (x : Station) (k : LinkId) :
    (s.setStation n x).link k = s.link k := rfl

@[simp] theorem State.setLink_tool (s : State) (l : LinkId) (x : Link) (u : ToolId) :
    (s.setLink l x).tool u = s.tool u := rfl
@[simp] theorem State.setLink_history (s : State) (l : LinkId) (x : Link) (u : ToolId) :
    (s.setLink l x).history u = s.history u := rfl
@[simp] theorem State.setLink_role (s : State) (l : LinkId) (x : Link) (q : RoleId) :
    (s.setLink l x).role q = s.role q := rfl
@[simp] theorem State.setLink_pool (s : State) (l : LinkId) (x : Link) (q : PoolId) :
    (s.setLink l x).pool q = s.pool q := rfl
@[simp] theorem State.setLink_station (s : State) (l : LinkId) (x : Link) (m : StationId) :
    (s.setLink l x).station m = s.station m := rfl

@[simp] theorem State.setPool_tool (s : State) (p : PoolId) (q : List RoleId) (u : ToolId) :
    (s.setPool p q).tool u = s.tool u := rfl
@[simp] theorem State.setPool_history (s : State) (p : PoolId) (q : List RoleId) (u : ToolId) :
    (s.setPool p q).history u = s.history u := rfl
@[simp] theorem State.setPool_role (s : State) (p : PoolId) (q : List RoleId) (q2 : RoleId) :
    (s.setPool p q).role q2 = s.role q2 := rfl
@[simp] theorem State.setPool_station (s : State) (p : PoolId) (q : List RoleId) (m : StationId) :
    (s.setPool p q).station m = s.station m := rfl
@[simp] theorem State.setPool_link (s : State) (p : PoolId) (q : List RoleId) (k : LinkId) :
    (s.setPool p q).link k = s.link k := rfl

@[simp] theorem State.setRole_tool (s : State) (r : RoleId) (x : Role) (u : ToolId) :
    (s.setRole r x).tool u = s.tool u := rfl
@[simp] theorem State.setRole_history (s : State) (r : RoleId) (x : Role) (u : ToolId) :
    (s.setRole r x).history u = s.history u := rfl
@[simp] theorem State.setRole_pool (s : State) (r : RoleId) (x : Role) (q : PoolId) :
    (s.setRole r x).pool q = s.pool q := rfl
@[simp] theorem State.setRole_station (s : State) (r : RoleId) (x : Role) (m : StationId) :
    (s.setRole r x).station m = s.station m := rfl
@[simp] theorem State.setRole_link (s : State) (r : RoleId) (x : Role) (k : LinkId) :
    (s.setRole r x).link k = s.link k := rfl

@[simp] theorem State.setRoleState_tool (s : State) (r : RoleId) (x : RoleState) (u : ToolId) :
    (s.setRoleState r x).tool u = s.tool u := rfl
@[simp] theorem State.setRoleState_history (s : State) (r : RoleId) (x : RoleState) (u : ToolId) :
    (s.setRoleState r x).history u = s.history u := rfl
@[simp] theorem State.setRoleState_pool (s : State) (r : RoleId) (x : RoleState) (q : PoolId) :
    (s.setRoleState r x).pool q = s.pool q := rfl
@[simp] theorem State.setRoleState_station (s : State) (r : RoleId) (x : RoleState) (m : StationId) :
    (s.setRoleState r x).station m = s.station m := rfl
@[simp] theorem State.setRoleState_link (s : State) (r : RoleId) (x : RoleState) (k : LinkId) :
    (s.setRoleState r x).link k = s.link k := rfl

@[simp] theorem State.setIntake_tool (s : State) (n : StationId) (x : Intake) (u : ToolId) :
    (s.setIntake n x).tool u = s.tool u := rfl
@[simp] theorem State.setIntake_history (s : State) (n : StationId) (x : Intake) (u : ToolId) :
    (s.setIntake n x).history u = s.history u := rfl
@[simp] theorem State.setIntake_role (s : State) (n : StationId) (x : Intake) (q : RoleId) :
    (s.setIntake n x).role q = s.role q := rfl
@[simp] theorem State.setIntake_pool (s : State) (n : StationId) (x : Intake) (q : PoolId) :
    (s.setIntake n x).pool q = s.pool q := rfl
@[simp] theorem State.setIntake_link (s : State) (n : StationId) (x : Intake) (k : LinkId) :
    (s.setIntake n x).link k = s.link k := rfl

@[simp] theorem State.setPlans_tool (s : State) (n : StationId) (x : PlanSlots) (u : ToolId) :
    (s.setPlans n x).tool u = s.tool u := rfl
@[simp] theorem State.setPlans_history (s : State) (n : StationId) (x : PlanSlots) (u : ToolId) :
    (s.setPlans n x).history u = s.history u := rfl
@[simp] theorem State.setPlans_role (s : State) (n : StationId) (x : PlanSlots) (q : RoleId) :
    (s.setPlans n x).role q = s.role q := rfl
@[simp] theorem State.setPlans_pool (s : State) (n : StationId) (x : PlanSlots) (q : PoolId) :
    (s.setPlans n x).pool q = s.pool q := rfl
@[simp] theorem State.setPlans_link (s : State) (n : StationId) (x : PlanSlots) (k : LinkId) :
    (s.setPlans n x).link k = s.link k := rfl

@[simp] theorem State.setControl_tool (s : State) (n : StationId) (x : Control) (u : ToolId) :
    (s.setControl n x).tool u = s.tool u := rfl
@[simp] theorem State.setControl_history (s : State) (n : StationId) (x : Control) (u : ToolId) :
    (s.setControl n x).history u = s.history u := rfl
@[simp] theorem State.setControl_role (s : State) (n : StationId) (x : Control) (q : RoleId) :
    (s.setControl n x).role q = s.role q := rfl
@[simp] theorem State.setControl_pool (s : State) (n : StationId) (x : Control) (q : PoolId) :
    (s.setControl n x).pool q = s.pool q := rfl
@[simp] theorem State.setControl_link (s : State) (n : StationId) (x : Control) (k : LinkId) :
    (s.setControl n x).link k = s.link k := rfl

@[simp] theorem State.setSwap_tool (s : State) (n : StationId) (x : Swap) (u : ToolId) :
    (s.setSwap n x).tool u = s.tool u := rfl
@[simp] theorem State.setSwap_history (s : State) (n : StationId) (x : Swap) (u : ToolId) :
    (s.setSwap n x).history u = s.history u := rfl
@[simp] theorem State.setSwap_role (s : State) (n : StationId) (x : Swap) (q : RoleId) :
    (s.setSwap n x).role q = s.role q := rfl
@[simp] theorem State.setSwap_pool (s : State) (n : StationId) (x : Swap) (q : PoolId) :
    (s.setSwap n x).pool q = s.pool q := rfl
@[simp] theorem State.setSwap_link (s : State) (n : StationId) (x : Swap) (k : LinkId) :
    (s.setSwap n x).link k = s.link k := rfl

@[simp] theorem State.setStationState_tool (s : State) (n : StationId) (x : StationState) (u : ToolId) :
    (s.setStationState n x).tool u = s.tool u := rfl
@[simp] theorem State.setStationState_history (s : State) (n : StationId) (x : StationState) (u : ToolId) :
    (s.setStationState n x).history u = s.history u := rfl
@[simp] theorem State.setStationState_role (s : State) (n : StationId) (x : StationState) (q : RoleId) :
    (s.setStationState n x).role q = s.role q := rfl
@[simp] theorem State.setStationState_pool (s : State) (n : StationId) (x : StationState) (q : PoolId) :
    (s.setStationState n x).pool q = s.pool q := rfl
@[simp] theorem State.setStationState_link (s : State) (n : StationId) (x : StationState) (k : LinkId) :
    (s.setStationState n x).link k = s.link k := rfl

@[simp] theorem State.setCounters_tool (s : State) (n : StationId) (x : Counters) (u : ToolId) :
    (s.setCounters n x).tool u = s.tool u := rfl
@[simp] theorem State.setCounters_history (s : State) (n : StationId) (x : Counters) (u : ToolId) :
    (s.setCounters n x).history u = s.history u := rfl
@[simp] theorem State.setCounters_role (s : State) (n : StationId) (x : Counters) (q : RoleId) :
    (s.setCounters n x).role q = s.role q := rfl
@[simp] theorem State.setCounters_pool (s : State) (n : StationId) (x : Counters) (q : PoolId) :
    (s.setCounters n x).pool q = s.pool q := rfl
@[simp] theorem State.setCounters_link (s : State) (n : StationId) (x : Counters) (k : LinkId) :
    (s.setCounters n x).link k = s.link k := rfl

@[simp] theorem State.countRefused_tool (s : State) (n : StationId) (u : ToolId) :
    (s.countRefused n).tool u = s.tool u := rfl
@[simp] theorem State.countRefused_history (s : State) (n : StationId) (u : ToolId) :
    (s.countRefused n).history u = s.history u := rfl
@[simp] theorem State.countRefused_role (s : State) (n : StationId) (q : RoleId) :
    (s.countRefused n).role q = s.role q := rfl
@[simp] theorem State.countRefused_pool (s : State) (n : StationId) (q : PoolId) :
    (s.countRefused n).pool q = s.pool q := rfl
@[simp] theorem State.countRefused_link (s : State) (n : StationId) (k : LinkId) :
    (s.countRefused n).link k = s.link k := rfl

@[simp] theorem State.mapEntries_tool (s : State) (n : StationId) (f : List Entry → List Entry) (u : ToolId) :
    (s.mapEntries n f).tool u = s.tool u := rfl
@[simp] theorem State.mapEntries_history (s : State) (n : StationId) (f : List Entry → List Entry) (u : ToolId) :
    (s.mapEntries n f).history u = s.history u := rfl
@[simp] theorem State.mapEntries_role (s : State) (n : StationId) (f : List Entry → List Entry) (q : RoleId) :
    (s.mapEntries n f).role q = s.role q := rfl
@[simp] theorem State.mapEntries_pool (s : State) (n : StationId) (f : List Entry → List Entry) (q : PoolId) :
    (s.mapEntries n f).pool q = s.pool q := rfl
@[simp] theorem State.mapEntries_link (s : State) (n : StationId) (f : List Entry → List Entry) (k : LinkId) :
    (s.mapEntries n f).link k = s.link k := rfl

@[simp] theorem State.mark_tool (s : State) (id : RecordId) (u : ToolId) :
    (s.mark id).tool u = s.tool u := rfl
@[simp] theorem State.mark_history (s : State) (id : RecordId) (u : ToolId) :
    (s.mark id).history u = s.history u := rfl
@[simp] theorem State.mark_role (s : State) (id : RecordId) (q : RoleId) :
    (s.mark id).role q = s.role q := rfl
@[simp] theorem State.mark_pool (s : State) (id : RecordId) (q : PoolId) :
    (s.mark id).pool q = s.pool q := rfl
@[simp] theorem State.mark_station (s : State) (id : RecordId) (m : StationId) :
    (s.mark id).station m = s.station m := rfl
@[simp] theorem State.mark_link (s : State) (id : RecordId) (k : LinkId) :
    (s.mark id).link k = s.link k := rfl

@[simp] theorem State.transmit_tool (s : State) (l : LinkId) (i : TxItem) (u : ToolId) :
    (s.transmit l i).tool u = s.tool u := rfl
@[simp] theorem State.transmit_history (s : State) (l : LinkId) (i : TxItem) (u : ToolId) :
    (s.transmit l i).history u = s.history u := rfl
@[simp] theorem State.transmit_role (s : State) (l : LinkId) (i : TxItem) (q : RoleId) :
    (s.transmit l i).role q = s.role q := rfl
@[simp] theorem State.transmit_pool (s : State) (l : LinkId) (i : TxItem) (q : PoolId) :
    (s.transmit l i).pool q = s.pool q := rfl
@[simp] theorem State.transmit_station (s : State) (l : LinkId) (i : TxItem) (m : StationId) :
    (s.transmit l i).station m = s.station m := rfl

/-! ### Readings that an update writes -/

theorem Vector.get_set {α : Type} {k : Nat} (v : Vector α k) (i j : Fin k) (x : α) :
    (v.set i x)[j] = if j = i then x else v[j] := by
  simp only [Fin.getElem_fin, Vector.getElem_set, Fin.ext_iff, eq_comm]

@[simp] theorem State.setHistory_history (s : State) (t u : ToolId) (h : List Verdict) :
    (s.setHistory t h).history u = if u = t then h else s.history u := Vector.get_set _ _ _ _

@[simp] theorem State.setStation_station (s : State) (n m : StationId) (x : Station) :
    (s.setStation n x).station m = if m = n then x else s.station m := Vector.get_set _ _ _ _

@[simp] theorem State.setLink_link (s : State) (l k : LinkId) (x : Link) :
    (s.setLink l x).link k = if k = l then x else s.link k := Vector.get_set _ _ _ _

@[simp] theorem State.setPool_pool (s : State) (p q : PoolId) (x : List RoleId) :
    (s.setPool p x).pool q = if q = p then x else s.pool q := Vector.get_set _ _ _ _

@[simp] theorem State.setRole_role (s : State) (r q : RoleId) (x : Role) :
    (s.setRole r x).role q = if q = r then x else s.role q := by
  obtain ⟨n, p⟩ := r
  obtain ⟨m, o⟩ := q
  simp only [State.role, State.setRole, Vector.get_set, RoleId.mk.injEq]
  by_cases h : m = n
  · subst h
    simp [Vector.getElem_set, Fin.ext_iff, eq_comm]
  · simp [h]

@[simp] theorem State.setRoleState_role (s : State) (r q : RoleId) (x : RoleState) :
    (s.setRoleState r x).role q = if q = r then { s.role r with state := x } else s.role q :=
  State.setRole_role _ _ _ _

@[simp] theorem State.setIntake_station (s : State) (n m : StationId) (x : Intake) :
    (s.setIntake n x).station m = if m = n then { s.station n with intake := x } else s.station m :=
  State.setStation_station _ _ _ _

@[simp] theorem State.setPlans_station (s : State) (n m : StationId) (x : PlanSlots) :
    (s.setPlans n x).station m = if m = n then { s.station n with plans := x } else s.station m :=
  State.setStation_station _ _ _ _

@[simp] theorem State.setControl_station (s : State) (n m : StationId) (x : Control) :
    (s.setControl n x).station m = if m = n then { s.station n with control := x } else s.station m :=
  State.setStation_station _ _ _ _

@[simp] theorem State.setSwap_station (s : State) (n m : StationId) (x : Swap) :
    (s.setSwap n x).station m = if m = n then { s.station n with swap := x } else s.station m :=
  State.setStation_station _ _ _ _

@[simp] theorem State.setStationState_station (s : State) (n m : StationId) (x : StationState) :
    (s.setStationState n x).station m =
      if m = n then { s.station n with control := { (s.station n).control with state := x } }
      else s.station m :=
  State.setControl_station _ _ _ _

@[simp] theorem State.setCounters_station (s : State) (n m : StationId) (c : Counters) :
    (s.setCounters n c).station m =
      if m = n then { s.station n with intake := { (s.station n).intake with counters := c } }
      else s.station m :=
  State.setIntake_station _ _ _ _

@[simp] theorem State.mapEntries_station (s : State) (n m : StationId) (f : List Entry → List Entry) :
    (s.mapEntries n f).station m =
      if m = n then
        { s.station n with swap := { (s.station n).swap with
            order := (s.station n).swap.order.map fun o => { o with entries := f o.entries } } }
      else s.station m :=
  State.setSwap_station _ _ _ _

@[simp] theorem State.transmit_link (s : State) (l k : LinkId) (i : TxItem) :
    (s.transmit l i).link k =
      if k = l then { s.link l with sending := some ⟨i, i.duration⟩ } else s.link k :=
  State.setLink_link _ _ _ _

/-! ### The pending-write set under a mark -/

@[simp] theorem State.mark_marked (s : State) (id : RecordId) :
    (s.mark id).store.marked = s.store.marked.set id.place true := rfl
@[simp] theorem State.mark_scan (s : State) (id : RecordId) : (s.mark id).store.scan = s.store.scan := rfl
@[simp] theorem State.mark_inFlight (s : State) (id : RecordId) :
    (s.mark id).store.inFlight = s.store.inFlight := rfl
@[simp] theorem State.mark_failures (s : State) (id : RecordId) :
    (s.mark id).store.failures = s.store.failures := rfl
@[simp] theorem State.mark_storeState (s : State) (id : RecordId) :
    (s.mark id).store.state = s.store.state := rfl
@[simp] theorem State.mark_hold (s : State) (id : RecordId) : (s.mark id).store.hold = s.store.hold := rfl

end Sys2Proof.Machine
end

