-- ==== Sys2Proof/Laws/Ops.lean ====
section
/-!
SUPPORT. What the shared operations of the machine can do: for each, the areas it leaves alone and the tools,
roles, stations, links and pools it may touch, and what it writes there. Later proofs cite these and unfold no
operation.
-/

namespace Sys2Proof.Machine

/-! ### Frames compose -/

theorem OnlyChanges.refl (s : State) (as : List Area) : OnlyChanges s s as := by
  intro a _
  cases a <;> simp [SameArea]

theorem SameArea.trans {s t u : State} {a : Area} (h : SameArea s t a) (g : SameArea t u a) :
    SameArea s u a := by
  cases a <;> simp_all [SameArea]

theorem OnlyChanges.trans {s t u : State} {as : List Area} (h : OnlyChanges s t as)
    (g : OnlyChanges t u as) : OnlyChanges s u as :=
  fun a ha => (h a ha).trans (g a ha)

theorem OnlyChanges.mono {s t : State} {as bs : List Area} (h : OnlyChanges s t as) (hs : as ⊆ bs) :
    OnlyChanges s t bs :=
  fun a ha => h a fun hm => ha (hs hm)

theorem OnlyChanges.foldl {α : Type} {as : List Area} (f : State → α → State)
    (h : ∀ s x, OnlyChanges s (f s x) as) (xs : List α) (s : State) :
    OnlyChanges s (xs.foldl f s) as := by
  induction xs generalizing s with
  | nil => exact .refl s as
  | cons x xs ih => exact (h s x).trans (ih (f s x))

theorem OnlyStations.refl (s : State) (ns : List StationId) : OnlyStations s s ns := fun _ _ => rfl

theorem OnlyStations.trans {s t u : State} {ns : List StationId} (h : OnlyStations s t ns)
    (g : OnlyStations t u ns) : OnlyStations s u ns :=
  fun n hn => (g n hn).trans (h n hn)

theorem OnlyStations.of_same {s t : State} (h : t.stations = s.stations) (ns : List StationId) :
    OnlyStations s t ns := by
  intro n _
  simp [State.station, h]

theorem OnlyStations.foldl {α : Type} {ns : List StationId} (f : State → α → State)
    (h : ∀ s x, OnlyStations s (f s x) ns) (xs : List α) (s : State) :
    OnlyStations s (xs.foldl f s) ns := by
  induction xs generalizing s with
  | nil => exact .refl s ns
  | cons x xs ih => exact (h s x).trans (ih (f s x))

theorem OnlyTools.trans {s t u : State} {us : List ToolId} (h : OnlyTools s t us)
    (g : OnlyTools t u us) : OnlyTools s u us :=
  fun n hn => (g n hn).trans (h n hn)

theorem OnlyRoles.trans {s t u : State} {rs : List RoleId} (h : OnlyRoles s t rs)
    (g : OnlyRoles t u rs) : OnlyRoles s u rs :=
  fun n hn => (g n hn).trans (h n hn)

theorem OnlyLinks.trans {s t u : State} {ls : List LinkId} (h : OnlyLinks s t ls)
    (g : OnlyLinks t u ls) : OnlyLinks s u ls :=
  fun n hn => (g n hn).trans (h n hn)

/-! ### The plain updates -/

theorem setHistory_onlyChanges (s : State) (u : ToolId) (h : List Verdict) :
    OnlyChanges s (s.setHistory u h) [.histories] := by
  intro a ha; cases a <;> simp_all [SameArea]

theorem setStation_onlyChanges (s : State) (n : StationId) (x : Station) :
    OnlyChanges s (s.setStation n x) [.stations] := by
  intro a ha; cases a <;> simp_all [SameArea]

theorem setLink_onlyChanges (s : State) (l : LinkId) (x : Link) :
    OnlyChanges s (s.setLink l x) [.links] := by
  intro a ha; cases a <;> simp_all [SameArea]

theorem setPool_onlyChanges (s : State) (p : PoolId) (q : List RoleId) :
    OnlyChanges s (s.setPool p q) [.pools] := by
  intro a ha; cases a <;> simp_all [SameArea]

theorem setRole_onlyChanges (s : State) (r : RoleId) (x : Role) :
    OnlyChanges s (s.setRole r x) [.roles] := by
  intro a ha; cases a <;> simp_all [SameArea]

theorem setRoleState_onlyChanges (s : State) (r : RoleId) (x : RoleState) :
    OnlyChanges s (s.setRoleState r x) [.roles] := setRole_onlyChanges s r _

theorem setSwap_onlyChanges (s : State) (n : StationId) (x : Swap) :
    OnlyChanges s (s.setSwap n x) [.stations] := setStation_onlyChanges s n _

theorem setControl_onlyChanges (s : State) (n : StationId) (x : Control) :
    OnlyChanges s (s.setControl n x) [.stations] := setStation_onlyChanges s n _

theorem setIntake_onlyChanges (s : State) (n : StationId) (x : Intake) :
    OnlyChanges s (s.setIntake n x) [.stations] := setStation_onlyChanges s n _

theorem setPlans_onlyChanges (s : State) (n : StationId) (x : PlanSlots) :
    OnlyChanges s (s.setPlans n x) [.stations] := setStation_onlyChanges s n _

theorem setStation_onlyStations (s : State) (n : StationId) (x : Station) :
    OnlyStations s (s.setStation n x) [n] := by
  intro m hm
  have : m ≠ n := by simpa using hm
  simp [State.station, State.setStation, Fin.getElem_fin, Fin.val_inj, this.symm]

theorem mark_onlyChanges (s : State) (id : RecordId) : OnlyChanges s (s.mark id) [.marks] := by
  intro a ha; cases a <;> simp_all [SameArea, State.mark]

/-! ### Records that are marked when they change (R187) -/

/-- A record that takes its own content again changes nothing. -/
theorem putTool_self (s : State) (u : ToolId) : s.putTool u (s.tool u) = s := by
  simp [State.putTool]

theorem putTool_onlyChanges (s : State) (u : ToolId) (x : ToolRecord) :
    OnlyChanges s (s.putTool u x) [.tools, .marks] := by
  intro a ha
  unfold State.putTool
  split <;> cases a <;> simp_all [SameArea, State.mark]

theorem putTool_tool (s : State) (u v : ToolId) (x : ToolRecord) :
    (s.putTool u x).tool v = if v = u then x else s.tool v := by
  unfold State.putTool
  split
  · rename_i h; split <;> simp_all
  · by_cases hv : v = u
    · subst hv; simp [State.tool, State.mark]
    · simp [State.tool, State.mark, hv, Fin.getElem_fin, Fin.val_inj, Ne.symm hv]

theorem putTool_onlyTools (s : State) (u : ToolId) (x : ToolRecord) : OnlyTools s (s.putTool u x) [u] := by
  intro v hv
  rw [putTool_tool, if_neg (by simpa using hv)]

/-- A tool record that changes is marked, and no other record's mark changes. -/
theorem putTool_marked (s : State) (u : ToolId) (x : ToolRecord) :
    (s.putTool u x).store.marked =
      if s.tool u = x then s.store.marked else s.store.marked.set (RecordId.tool u).place true := by
  unfold State.putTool; split <;> simp_all [State.mark]

theorem putRole_onlyChanges (s : State) (r : RoleId) (x : RoleRecord) :
    OnlyChanges s (s.putRole r x) [.roles, .marks] := by
  intro a ha
  unfold State.putRole
  split <;> cases a <;> simp_all [SameArea, State.mark]

/-! ### Notices (R181) -/

theorem queueNotice_onlyChanges (s : State) (n : StationId) (k : NoticeKind) :
    OnlyChanges s (s.queueNotice n k) [.notices] := by
  intro a ha
  unfold State.queueNotice
  split <;> cases a <;> simp_all [SameArea]

theorem queueNotice_mem (s : State) (n : StationId) (k : NoticeKind) :
    (⟨n, k⟩ : Notice) ∈ (s.queueNotice n k).notices := by
  unfold State.queueNotice; split <;> simp_all

theorem queueNotice_keeps {s : State} {x : Notice} (h : x ∈ s.notices) (n : StationId) (k : NoticeKind) :
    x ∈ (s.queueNotice n k).notices := by
  unfold State.queueNotice; split <;> simp_all

theorem queueNotice_nodup {s : State} (h : s.notices.Nodup) (n : StationId) (k : NoticeKind) :
    (s.queueNotice n k).notices.Nodup := by
  unfold State.queueNotice
  split
  · exact h
  · rename_i hn
    exact List.nodup_append.mpr ⟨h, by simp, by rintro a ha b hb rfl; simp_all⟩

/-! ### Transmitters, directives and halts -/

theorem transmit_onlyChanges (s : State) (l : LinkId) (i : TxItem) :
    OnlyChanges s (s.transmit l i) [.links] := setLink_onlyChanges s l _

theorem sendAnswer_onlyChanges (s : State) (l : LinkId) : OnlyChanges s (s.sendAnswer l) [.links] := by
  unfold State.sendAnswer
  split
  · exact .refl _ _
  · split
    · exact (setLink_onlyChanges s l _).trans (transmit_onlyChanges _ l _)
    · exact .refl _ _

theorem askAnswer_onlyChanges (s : State) (l : LinkId) (a : Answer) :
    OnlyChanges s (s.askAnswer l a) [.links] := by
  unfold State.askAnswer
  dsimp only
  split
  · exact (setLink_onlyChanges s l _).trans (sendAnswer_onlyChanges _ l)
  · exact .refl _ _

theorem sendDirective_onlyChanges (s : State) (n : StationId) :
    OnlyChanges s (s.sendDirective n) [.stations, .links] := by
  unfold State.sendDirective
  dsimp only
  split
  · split
    · exact ((setControl_onlyChanges s n _).mono (by simp)).trans ((transmit_onlyChanges _ _ _).mono (by simp))
    · exact ((setControl_onlyChanges s n _).mono (by simp)).trans ((transmit_onlyChanges _ _ _).mono (by simp))
    · exact .refl _ _
  · exact .refl _ _

theorem askState_onlyChanges (s : State) (n : StationId) (d : StateDirective) :
    OnlyChanges s (s.askState n d) [.stations, .links] :=
  ((setControl_onlyChanges s n _).mono (by simp)).trans (sendDirective_onlyChanges _ n)

theorem askDress_onlyChanges (s : State) (n : StationId) (ps : List Pos) :
    OnlyChanges s (s.askDress n ps) [.stations, .links] := by
  unfold State.askDress
  split
  · exact .refl _ _
  · exact ((setControl_onlyChanges s n _).mono (by simp)).trans (sendDirective_onlyChanges _ n)

theorem halt_onlyChanges (s : State) (n : StationId) (c : HaltCause) (u : Option ToolId) :
    OnlyChanges s (s.halt n c u) [.stations, .links, .notices] := by
  unfold State.halt
  split
  · exact .refl _ _
  · exact (((setControl_onlyChanges s n _).mono (by simp)).trans
      ((askState_onlyChanges _ n _).mono (by simp))).trans ((queueNotice_onlyChanges _ n _).mono (by simp))

/-- An OFFLINE station is not touched by a halt request (R125). -/
theorem halt_offline {s : State} {n : StationId} (h : s.stationState n = .offline) (c : HaltCause)
    (u : Option ToolId) : s.halt n c u = s := by
  simp [State.halt, h]

/-! ### Pools and orders -/

theorem reserve_onlyChanges (s : State) (u : ToolId) (r : RoleId) :
    OnlyChanges s (s.reserve u r) [.tools, .roles, .marks] :=
  ((putTool_onlyChanges s u _).mono (by simp)).trans ((setRoleState_onlyChanges _ r _).mono (by simp))

theorem dequeue_onlyChanges (s : State) (r : RoleId) : OnlyChanges s (s.dequeue r) [.pools] := by
  unfold State.dequeue
  split
  · exact .refl _ _
  · exact setPool_onlyChanges s _ _

theorem enqueue_onlyChanges (s : State) (r : RoleId) : OnlyChanges s (s.enqueue r) [.roles, .pools] := by
  unfold State.enqueue
  split
  · exact (setRoleState_onlyChanges s r _).mono (by simp)
  · exact ((setPool_onlyChanges s _ _).mono (by simp)).trans ((setRoleState_onlyChanges _ r _).mono (by simp))

theorem waitingChoice_onlyChanges (s : State) (r : RoleId) :
    OnlyChanges s (s.waitingChoice r).1 [.tools, .roles, .pools, .marks] := by
  unfold State.waitingChoice
  split
  · exact (reserve_onlyChanges s _ r).mono (by simp)
  · exact (enqueue_onlyChanges s r).mono (by simp)

theorem rideAlongChoice_onlyChanges (s : State) (r : RoleId) :
    OnlyChanges s (s.rideAlongChoice r).1 [.tools, .roles, .pools, .marks] := by
  unfold State.rideAlongChoice
  split
  · exact (reserve_onlyChanges s _ r).mono (by simp)
  · exact .refl _ _

theorem mapEntries_onlyChanges (s : State) (n : StationId) (f : List Entry → List Entry) :
    OnlyChanges s (s.mapEntries n f) [.stations] := setSwap_onlyChanges s n _

theorem noticeIfOrdered_onlyChanges (s : State) (n : StationId) :
    OnlyChanges s (s.noticeIfOrdered n) [.notices] := by
  unfold State.noticeIfOrdered
  split
  · split
    · exact queueNotice_onlyChanges s n _
    · exact .refl _ _
  · exact .refl _ _

/-- What serving, offering and returning a tool may touch (R14, R119, R153). -/
abbrev offerAreas : List Area := [.tools, .roles, .pools, .stations, .notices, .marks]

theorem serve_onlyChanges (s : State) (p : PoolId) (u : ToolId) (r : RoleId) :
    OnlyChanges s (s.serve p u r) offerAreas :=
  ((((setPool_onlyChanges s p _).mono (by simp)).trans ((reserve_onlyChanges _ u r).mono (by simp))).trans
    ((mapEntries_onlyChanges _ _ _).mono (by simp))).trans ((noticeIfOrdered_onlyChanges _ _).mono (by simp))

theorem offer_onlyChanges (s : State) (u : ToolId) : OnlyChanges s (s.offer u) offerAreas := by
  unfold State.offer
  split
  · exact .refl _ _
  · split
    · exact .refl _ _
    · split
      · exact .refl _ _
      · exact serve_onlyChanges s _ u _

/-- A PINNED tool is offered to no role (R15). -/
theorem offer_pinned {s : State} {u : ToolId} (h : (s.tool u).flags.pinned = true) : s.offer u = s := by
  unfold State.offer
  split <;> simp_all

theorem returnTool_onlyChanges (s : State) (u : ToolId) : OnlyChanges s (s.returnTool u) offerAreas :=
  ((putTool_onlyChanges s u _).mono (by simp)).trans (offer_onlyChanges _ u)

theorem makeEntry_onlyChanges (s : State) (n : StationId) (p : Pos) :
    OnlyChanges s (s.makeEntry n p).1 [.tools, .roles, .pools, .marks] := by
  unfold State.makeEntry
  split
  · exact .refl _ _
  · simp only
    split
    · have h := rideAlongChoice_onlyChanges s ⟨n, p⟩
      split <;> simp_all
    · have h := waitingChoice_onlyChanges s ⟨n, p⟩
      split <;> simp_all

theorem makeEntries_onlyChanges (s : State) (n : StationId) (ps : List Pos) :
    OnlyChanges s (s.makeEntries n ps).1 [.tools, .roles, .pools, .marks] := by
  unfold State.makeEntries
  suffices h : ∀ (acc : State × List Entry), OnlyChanges acc.1
      (ps.foldl (fun (acc : State × List Entry) p => ((acc.1.makeEntry n p).1, acc.2 ++ (acc.1.makeEntry n p).2))
        acc).1 [.tools, .roles, .pools, .marks] from h (s, [])
  induction ps with
  | nil => exact fun acc => .refl _ _
  | cons p ps ih => exact fun acc => (makeEntry_onlyChanges acc.1 n p).trans (ih _)

/-! ### The record store (R188) -/

theorem beginWrite_onlyChanges (s : State) : OnlyChanges s s.beginWrite [.marks] := by
  intro a ha
  unfold State.beginWrite
  split
  · split <;> cases a <;> simp_all [SameArea]
  · cases a <;> simp_all [SameArea]

/-- No write begins while the hold lasts, while one is in flight, or without power. -/
theorem beginWrite_waits {s : State}
    (h : s.powered = false ∨ s.store.hold = true ∨ s.store.inFlight ≠ none) : s.beginWrite = s := by
  unfold State.beginWrite
  rw [if_neg]
  rintro ⟨h1, h2, h3⟩
  rcases h with h | h | h <;> simp_all

/-! ### Taking a record or a request -/

/-- A command that needs power does nothing without it. -/
theorem whenPowered_off {s : State} (h : s.powered = false) (f : State → State) :
    s.whenPowered f = .next s := by
  simp [State.whenPowered, h]

theorem whenPowered_on {s : State} (h : s.powered = true) (f : State → State) :
    s.whenPowered f = .next (f s).beginWrite := by
  simp [State.whenPowered, h]

/-- A request that is next is answered by its rule, on the state it has left the intake of. -/
theorem takeRequest_taken {s : State} {p : Payload} {rest : List Payload} (h : TakesRequest s p rest)
    {kind : Byte} (hk : p.headD 0 = kind) (f : Payload → State → State × Answered) :
    s.takeRequest kind f =
      let out := f p { s with cell := { s.cell with intake := rest } }
      .next { out.1 with cell := { out.1.cell with
        reply := some [replyPayload kind out.2.code out.2.data] } }.beginWrite := by
  obtain ⟨hp, hi, hc⟩ := h
  subst hk
  simp only [State.takeRequest, State.takeFrame, State.whenPowered, if_pos hp, hi]
  rw [if_pos ⟨hc, by simp⟩]

/-- A record that is next and that the command picks is processed, on the state it has left the queue of. -/
theorem takeRecord_taken {s : State} {n : StationId} {r : StationRecord} {stamp : Time}
    {rest : List QueuedRecord} (h : TakesRecord s n r stamp rest) {α : Type} {pick : StationRecord → Option α}
    {a : α} (ha : pick r = some a) (f : α → Time → State → State) :
    s.takeRecord n pick f =
      .next (f a stamp (s.setIntake n { (s.station n).intake with queue := rest })).beginWrite := by
  obtain ⟨hp, ho, number, hq⟩ := h
  simp [State.takeRecord, State.whenPowered, hp, ho, hq, ha]

/-! ### The life figures and the strikes, as the claims spell them -/

theorem ToolRecord.remaining_eq_lifeLeft (x : ToolRecord) : x.remaining = x.lifeLeft := by
  unfold ToolRecord.remaining ToolRecord.lifeLeft
  cases x.life <;> rfl

theorem ToolRecord.projection_eq_partsLeft (x : ToolRecord) : x.projection = x.partsLeft := by
  have h := x.remaining_eq_lifeLeft
  unfold ToolRecord.projection ToolRecord.partsLeft projectionOf
  cases x.life <;> simp only [h, Config.maxProjection]

theorem ToolRecord.wearOut_eq_lifeSpent (x : ToolRecord) : x.wearOut = x.lifeSpent := by
  have h := x.remaining_eq_lifeLeft
  unfold ToolRecord.wearOut ToolRecord.lifeSpent
  cases x.life <;> simp only [h]

theorem strikes_eq_strikeCount (h : List Verdict) : strikes h = strikeCount h := by
  simp only [strikes, strikeCount]
  congr 1
  refine List.filter_congr fun v _ => ?_
  cases v <;> rfl

/-! ### Whom a stored tool serves -/

/-- R115: a tool qualifies for a role if it fits it in its pool, is STORED and is not PINNED. -/
theorem qualifies_iff {s : State} {u : ToolId} {q : PoolId} (r : RoleId) (hq : (s.tool u).pool = some q) :
    s.qualifies u r = true
      ↔ FitsRole s q (s.tool u) r ∧ (s.tool u).state = .stored ∧ (s.tool u).flags.pinned = false := by
  simp only [State.qualifies, FitsRole, ToolRecord.remaining_eq_lifeLeft, hq, Option.isSome_some, Bool.and_eq_true,
    Bool.not_eq_true', beq_iff_eq, decide_eq_true_eq]
  constructor
  · exact fun ⟨⟨⟨⟨⟨kind, _⟩, pool⟩, stored⟩, pin⟩, life⟩ => ⟨⟨pool.symm, kind, life⟩, stored, pin⟩
  · exact fun ⟨⟨pool, kind, life⟩, stored, pin⟩ => ⟨⟨⟨⟨⟨kind, trivial⟩, pool.symm⟩, stored⟩, pin⟩, life⟩

/-- R14, R119: a tool that goes to no role stays as it entered the store. -/
theorem offer_notServed {s : State} {u : ToolId} (h : NotServed s (s.tool u)) : s.offer u = s := by
  rcases h with h | h
  · exact offer_pinned h
  unfold State.offer
  cases hp : (s.tool u).pool with
  | none => rfl
  | some q =>
    have none : (s.pool q).find? (fun r => s.qualifies u r) = none := by
      rw [List.find?_eq_none]
      exact fun r hr g => h q hp r hr ((qualifies_iff r hp).1 g).1
    simp only [none, ite_self]

/-- R14, R119: a STORED tool that goes to a role serves it. -/
theorem offer_goesTo {s : State} {u : ToolId} {q : PoolId} {before : List RoleId} {r : RoleId} {after : List RoleId}
    (h : GoesTo s (s.tool u) q before r after) (hs : (s.tool u).state = .stored) : s.offer u = s.serve q u r := by
  obtain ⟨pin, hp, hq, older, fits, -⟩ := h
  have first : (s.pool q).find? (fun r => s.qualifies u r) = some r := by
    rw [List.find?_eq_some_iff_append]
    refine ⟨(qualifies_iff r hp).2 ⟨fits, hs, pin⟩, before, after, hq, fun y hy => ?_⟩
    simpa using fun g => older y hy ((qualifies_iff y hp).1 g).1
  simp [State.offer, hp, pin, first]

/-! ### The frame check, bit by bit -/

/-- R166: the check takes the bits of two words folded together as the bits of one and of the other. -/
theorem crcBit_xor (r x : BitVec 16) :
    crcBit (r ^^^ x) = (if r.msb = x.msb then r <<< 1 else (r <<< 1) ^^^ 0x1021) ^^^ (x <<< 1) := by
  simp only [crcBit, BitVec.msb_xor, BitVec.shiftLeft_xor_distrib]
  cases r.msb <;> cases x.msb <;> simp [BitVec.xor_assoc, BitVec.xor_comm (x <<< 1)]

/-- R166: the check of one byte takes its bits one by one, most significant first. -/
theorem crcByte_eq (c : BitVec 16) (b : Byte) :
    crcByte c b = (List.range 8).foldl
      (fun (r : BitVec 16) i => if r.msb = b.getMsbD i then r <<< 1 else (r <<< 1) ^^^ 0x1021) c := by
  have bit (r : BitVec 16) (i : Nat) : crcBit (r ^^^ b.setWidth 16 <<< (8 + i))
      = (if r.msb = b.getMsbD i then r <<< 1 else (r <<< 1) ^^^ 0x1021) ^^^ b.setWidth 16 <<< (8 + (i + 1)) := by
    rw [crcBit_xor, ← BitVec.shiftLeft_add, Nat.add_assoc, BitVec.msb_eq_getMsbD_zero (x := _ <<< _)]
    simp [BitVec.getMsbD_setWidth]
  have all (k : Nat) : k ≤ 8 → Nat.repeat crcBit k (c ^^^ b.setWidth 16 <<< 8)
      = (List.range k).foldl
        (fun (r : BitVec 16) i => if r.msb = b.getMsbD i then r <<< 1 else (r <<< 1) ^^^ 0x1021) c
        ^^^ b.setWidth 16 <<< (8 + k) := by
    induction k with
    | zero => simp [Nat.repeat]
    | succ k ih => intro h; rw [Nat.repeat, ih (by omega), bit, List.range_succ, List.foldl_append]; rfl
  have out : b.setWidth 16 <<< 16 = 0#16 := by ext i hi; simp
  exact (all 8 (Nat.le_refl 8)).trans (by simp only [Nat.reduceAdd, out, BitVec.xor_zero])

/-- R166: the machine's check is the check bit by bit. -/
theorem crc_eq_frameCheck (bs : List Byte) : crc bs = frameCheck bs :=
  congrArg (fun f => bs.foldl f 0xFFFF) (funext fun c => funext fun b => crcByte_eq c b)

/-- R166: the frame that the machine sends is the wire form of its payload. -/
theorem frameBytes_eq (p : Payload) : frameBytes p = wireBytes p (frameCheck (covered p)) := by
  have h : checked p = covered p := by
    simp only [checked, covered, le, List.cons_append, List.nil_append, List.cons.injEq, and_true]
    exact BitVec.eq_of_toNat_eq (by simp)
  have e (c : BitVec 16) : checkBytes c = [c.extractLsb' 8 8, c.extractLsb' 0 8] := by
    simp only [checkBytes, List.cons.injEq, and_true]
    constructor <;> ext i hi <;> simp
  rw [frameBytes, h, crc_eq_frameCheck, wireBytes, e]; rfl

end Sys2Proof.Machine
end

