-- ==== Sys2Proof/Laws/PerInstr.lean ====
section
/-!
SUPPORT. What holds of every command as syntax, one lemma a constructor: a command is well formed exactly when
each payload it carries is the payload of a frame, and the length field of that frame then spells its length.
-/

namespace Sys2Proof.Laws

/- The lemmas below all wait for the same equations; one after another, so that few of them wait at once. -/
set_option Elab.async false

/-- The payloads a command carries. -/
def payloads (i : Instr) : List Payload :=
  match i with
  | .powerUp _ => []
  | .powerLoss _ => []
  | .writeHoldEnd => []
  | .storeWriteComplete _ => []
  | .linkByte _ _ => []
  | .gap _ => []
  | .stationRecordArrival _ payload => [payload]
  | .cellFrameArrival payload => [payload]
  | .answerByteSend _ => []
  | .directiveSend _ => []
  | .replySend => []
  | .noticeSend => []
  | .linkRateChange _ => []
  | .partStart _ => []
  | .cut _ => []
  | .dress _ => []
  | .partEnd _ => []
  | .windowTimerExpiry _ => []
  | .capDeadlineExpiry _ => []
  | .lapse _ => []
  | .toolEnter => []
  | .toolRecondition => []
  | .toolRemove => []
  | .toolAdjust => []
  | .toolPin => []
  | .toolUnpin => []
  | .toolRead => []
  | .toolTableRead => []
  | .toolRelease => []
  | .planBegin => []
  | .planSteps => []
  | .planDrop => []
  | .planRead => []
  | .roleDefine => []
  | .roleClear => []
  | .toolMount => []
  | .toolUnmount => []
  | .roleRead => []
  | .poolRead => []
  | .stationConfigure => []
  | .stationStart => []
  | .stationStop => []
  | .stationHalt => []
  | .stationResume => []
  | .stationRead => []
  | .swapDone => []
  | .swapRefused => []
  | .swapDefer => []
  | .swapResume => []
  | .orderRead => []
  | .linkRate => []
  | .status => []
  | .unknownKind => []

/-- The length field of R166 spells the length of every payload that a frame can carry. -/
theorem lengthField_spells (p : Payload) (h : Payload.fits p) :
    Machine.leNat (Machine.le 2 p.length) = p.length := by
  obtain ⟨_, h2⟩ := h
  simp only [Machine.le, Machine.leNat, BitVec.toNat_ofNat]
  omega

/-- A command is well formed exactly when its payloads fit a frame, and their length fields then spell their
lengths (R166). -/
def Framing.Statement (i : Instr) : Prop :=
  (i.WellFormed ↔ ∀ p ∈ payloads i, Payload.fits p)
    ∧ ∀ p ∈ payloads i, Payload.fits p → Machine.leNat (Machine.le 2 p.length) = p.length

theorem Framing.powerUp (torn : Torn) : Framing.Statement (.powerUp torn) := by
  refine ⟨by simp [Instr.WellFormed, payloads], fun p _ h => lengthField_spells p h⟩

theorem Framing.powerLoss (torn : Torn) : Framing.Statement (.powerLoss torn) := by
  refine ⟨by simp [Instr.WellFormed, payloads], fun p _ h => lengthField_spells p h⟩

theorem Framing.writeHoldEnd : Framing.Statement (.writeHoldEnd) := by
  refine ⟨by simp [Instr.WellFormed, payloads], fun p _ h => lengthField_spells p h⟩

theorem Framing.storeWriteComplete (result : WriteResult) : Framing.Statement (.storeWriteComplete result) := by
  refine ⟨by simp [Instr.WellFormed, payloads], fun p _ h => lengthField_spells p h⟩

theorem Framing.linkByte (link : LinkId) (b : Byte) : Framing.Statement (.linkByte link b) := by
  refine ⟨by simp [Instr.WellFormed, payloads], fun p _ h => lengthField_spells p h⟩

theorem Framing.gap (link : LinkId) : Framing.Statement (.gap link) := by
  refine ⟨by simp [Instr.WellFormed, payloads], fun p _ h => lengthField_spells p h⟩

theorem Framing.stationRecordArrival (station : StationId) (payload : Payload) : Framing.Statement (.stationRecordArrival station payload) := by
  refine ⟨by simp [Instr.WellFormed, payloads], fun p _ h => lengthField_spells p h⟩

theorem Framing.cellFrameArrival (payload : Payload) : Framing.Statement (.cellFrameArrival payload) := by
  refine ⟨by simp [Instr.WellFormed, payloads], fun p _ h => lengthField_spells p h⟩

theorem Framing.answerByteSend (link : LinkId) : Framing.Statement (.answerByteSend link) := by
  refine ⟨by simp [Instr.WellFormed, payloads], fun p _ h => lengthField_spells p h⟩

theorem Framing.directiveSend (station : StationId) : Framing.Statement (.directiveSend station) := by
  refine ⟨by simp [Instr.WellFormed, payloads], fun p _ h => lengthField_spells p h⟩

theorem Framing.replySend : Framing.Statement (.replySend) := by
  refine ⟨by simp [Instr.WellFormed, payloads], fun p _ h => lengthField_spells p h⟩

theorem Framing.noticeSend : Framing.Statement (.noticeSend) := by
  refine ⟨by simp [Instr.WellFormed, payloads], fun p _ h => lengthField_spells p h⟩

theorem Framing.linkRateChange (link : LinkId) : Framing.Statement (.linkRateChange link) := by
  refine ⟨by simp [Instr.WellFormed, payloads], fun p _ h => lengthField_spells p h⟩

theorem Framing.partStart (station : StationId) : Framing.Statement (.partStart station) := by
  refine ⟨by simp [Instr.WellFormed, payloads], fun p _ h => lengthField_spells p h⟩

theorem Framing.cut (station : StationId) : Framing.Statement (.cut station) := by
  refine ⟨by simp [Instr.WellFormed, payloads], fun p _ h => lengthField_spells p h⟩

theorem Framing.dress (station : StationId) : Framing.Statement (.dress station) := by
  refine ⟨by simp [Instr.WellFormed, payloads], fun p _ h => lengthField_spells p h⟩

theorem Framing.partEnd (station : StationId) : Framing.Statement (.partEnd station) := by
  refine ⟨by simp [Instr.WellFormed, payloads], fun p _ h => lengthField_spells p h⟩

theorem Framing.windowTimerExpiry (station : StationId) : Framing.Statement (.windowTimerExpiry station) := by
  refine ⟨by simp [Instr.WellFormed, payloads], fun p _ h => lengthField_spells p h⟩

theorem Framing.capDeadlineExpiry (station : StationId) : Framing.Statement (.capDeadlineExpiry station) := by
  refine ⟨by simp [Instr.WellFormed, payloads], fun p _ h => lengthField_spells p h⟩

theorem Framing.lapse (station : StationId) : Framing.Statement (.lapse station) := by
  refine ⟨by simp [Instr.WellFormed, payloads], fun p _ h => lengthField_spells p h⟩

theorem Framing.toolEnter : Framing.Statement (.toolEnter) := by
  refine ⟨by simp [Instr.WellFormed, payloads], fun p _ h => lengthField_spells p h⟩

theorem Framing.toolRecondition : Framing.Statement (.toolRecondition) := by
  refine ⟨by simp [Instr.WellFormed, payloads], fun p _ h => lengthField_spells p h⟩

theorem Framing.toolRemove : Framing.Statement (.toolRemove) := by
  refine ⟨by simp [Instr.WellFormed, payloads], fun p _ h => lengthField_spells p h⟩

theorem Framing.toolAdjust : Framing.Statement (.toolAdjust) := by
  refine ⟨by simp [Instr.WellFormed, payloads], fun p _ h => lengthField_spells p h⟩

theorem Framing.toolPin : Framing.Statement (.toolPin) := by
  refine ⟨by simp [Instr.WellFormed, payloads], fun p _ h => lengthField_spells p h⟩

theorem Framing.toolUnpin : Framing.Statement (.toolUnpin) := by
  refine ⟨by simp [Instr.WellFormed, payloads], fun p _ h => lengthField_spells p h⟩

theorem Framing.toolRead : Framing.Statement (.toolRead) := by
  refine ⟨by simp [Instr.WellFormed, payloads], fun p _ h => lengthField_spells p h⟩

theorem Framing.toolTableRead : Framing.Statement (.toolTableRead) := by
  refine ⟨by simp [Instr.WellFormed, payloads], fun p _ h => lengthField_spells p h⟩

theorem Framing.toolRelease : Framing.Statement (.toolRelease) := by
  refine ⟨by simp [Instr.WellFormed, payloads], fun p _ h => lengthField_spells p h⟩

theorem Framing.planBegin : Framing.Statement (.planBegin) := by
  refine ⟨by simp [Instr.WellFormed, payloads], fun p _ h => lengthField_spells p h⟩

theorem Framing.planSteps : Framing.Statement (.planSteps) := by
  refine ⟨by simp [Instr.WellFormed, payloads], fun p _ h => lengthField_spells p h⟩

theorem Framing.planDrop : Framing.Statement (.planDrop) := by
  refine ⟨by simp [Instr.WellFormed, payloads], fun p _ h => lengthField_spells p h⟩

theorem Framing.planRead : Framing.Statement (.planRead) := by
  refine ⟨by simp [Instr.WellFormed, payloads], fun p _ h => lengthField_spells p h⟩

theorem Framing.roleDefine : Framing.Statement (.roleDefine) := by
  refine ⟨by simp [Instr.WellFormed, payloads], fun p _ h => lengthField_spells p h⟩

theorem Framing.roleClear : Framing.Statement (.roleClear) := by
  refine ⟨by simp [Instr.WellFormed, payloads], fun p _ h => lengthField_spells p h⟩

theorem Framing.toolMount : Framing.Statement (.toolMount) := by
  refine ⟨by simp [Instr.WellFormed, payloads], fun p _ h => lengthField_spells p h⟩

theorem Framing.toolUnmount : Framing.Statement (.toolUnmount) := by
  refine ⟨by simp [Instr.WellFormed, payloads], fun p _ h => lengthField_spells p h⟩

theorem Framing.roleRead : Framing.Statement (.roleRead) := by
  refine ⟨by simp [Instr.WellFormed, payloads], fun p _ h => lengthField_spells p h⟩

theorem Framing.poolRead : Framing.Statement (.poolRead) := by
  refine ⟨by simp [Instr.WellFormed, payloads], fun p _ h => lengthField_spells p h⟩

theorem Framing.stationConfigure : Framing.Statement (.stationConfigure) := by
  refine ⟨by simp [Instr.WellFormed, payloads], fun p _ h => lengthField_spells p h⟩

theorem Framing.stationStart : Framing.Statement (.stationStart) := by
  refine ⟨by simp [Instr.WellFormed, payloads], fun p _ h => lengthField_spells p h⟩

theorem Framing.stationStop : Framing.Statement (.stationStop) := by
  refine ⟨by simp [Instr.WellFormed, payloads], fun p _ h => lengthField_spells p h⟩

theorem Framing.stationHalt : Framing.Statement (.stationHalt) := by
  refine ⟨by simp [Instr.WellFormed, payloads], fun p _ h => lengthField_spells p h⟩

theorem Framing.stationResume : Framing.Statement (.stationResume) := by
  refine ⟨by simp [Instr.WellFormed, payloads], fun p _ h => lengthField_spells p h⟩

theorem Framing.stationRead : Framing.Statement (.stationRead) := by
  refine ⟨by simp [Instr.WellFormed, payloads], fun p _ h => lengthField_spells p h⟩

theorem Framing.swapDone : Framing.Statement (.swapDone) := by
  refine ⟨by simp [Instr.WellFormed, payloads], fun p _ h => lengthField_spells p h⟩

theorem Framing.swapRefused : Framing.Statement (.swapRefused) := by
  refine ⟨by simp [Instr.WellFormed, payloads], fun p _ h => lengthField_spells p h⟩

theorem Framing.swapDefer : Framing.Statement (.swapDefer) := by
  refine ⟨by simp [Instr.WellFormed, payloads], fun p _ h => lengthField_spells p h⟩

theorem Framing.swapResume : Framing.Statement (.swapResume) := by
  refine ⟨by simp [Instr.WellFormed, payloads], fun p _ h => lengthField_spells p h⟩

theorem Framing.orderRead : Framing.Statement (.orderRead) := by
  refine ⟨by simp [Instr.WellFormed, payloads], fun p _ h => lengthField_spells p h⟩

theorem Framing.linkRate : Framing.Statement (.linkRate) := by
  refine ⟨by simp [Instr.WellFormed, payloads], fun p _ h => lengthField_spells p h⟩

theorem Framing.status : Framing.Statement (.status) := by
  refine ⟨by simp [Instr.WellFormed, payloads], fun p _ h => lengthField_spells p h⟩

theorem Framing.unknownKind : Framing.Statement (.unknownKind) := by
  refine ⟨by simp [Instr.WellFormed, payloads], fun p _ h => lengthField_spells p h⟩

end Sys2Proof.Laws
end

