-- ==== Sys2Proof/Laws/Swap.lean ====
section
/-!
SUPPORT. What the operations of swap control, plans, the verdict unit and the wear unit can do to the state: the areas
each leaves alone, so that a proof about a record or a request need not unfold the swap cycle under it.
-/

namespace Sys2Proof.Machine

/-- What a need, an order or its end may touch (chapter 8). -/
abbrev swapAreas : List Area := [.tools, .roles, .pools, .stations, .notices, .links, .marks]

/-! ### Windows and orders -/

theorem holdForOrder_onlyChanges (s : State) (n : StationId) :
    OnlyChanges s (s.holdForOrder n) [.stations, .links] := by
  unfold State.holdForOrder
  split
  · exact ((setControl_onlyChanges s n _).mono (by simp)).trans (askState_onlyChanges _ n _)
  · exact ((setControl_onlyChanges s n _).mono (by simp)).trans (askState_onlyChanges _ n _)
  · exact .refl _ _

theorem releaseFromOrder_onlyChanges (s : State) (n : StationId) :
    OnlyChanges s (s.releaseFromOrder n) [.stations, .links] := by
  unfold State.releaseFromOrder
  split
  · exact ((setControl_onlyChanges s n _).mono (by simp)).trans (askState_onlyChanges _ n _)
  · exact ((setControl_onlyChanges s n _).mono (by simp)).trans (askState_onlyChanges _ n _)
  · exact .refl _ _

theorem formOrder_onlyChanges (s : State) (n : StationId) (listed : List Pos) :
    OnlyChanges s (s.formOrder n listed) swapAreas := by
  unfold State.formOrder
  exact (((makeEntries_onlyChanges s n _).mono (by simp)).trans ((setSwap_onlyChanges _ n _).mono (by simp))).trans
    (((holdForOrder_onlyChanges _ n).mono (by simp)).trans ((queueNotice_onlyChanges _ n _).mono (by simp)))

theorem closeWindow_onlyChanges (s : State) (n : StationId) :
    OnlyChanges s (s.closeWindow n) swapAreas := by
  unfold State.closeWindow
  split
  · exact .refl _ _
  · exact ((setSwap_onlyChanges s n _).mono (by simp)).trans (formOrder_onlyChanges _ n _)

/-- Without an open window there is nothing to close (R147). -/
theorem closeWindow_none {s : State} {n : StationId} (h : (s.station n).swap.window = none) :
    s.closeWindow n = s := by
  simp [State.closeWindow, h]

theorem joinWindow_onlyChanges (s : State) (n : StationId) (w : Window) (p : Pos) :
    OnlyChanges s (s.joinWindow n w p) [.stations] := by
  unfold State.joinWindow
  split
  · exact .refl _ _
  · exact setSwap_onlyChanges s n _

theorem refreshReason_onlyChanges (s : State) (n : StationId) (p : Pos) :
    OnlyChanges s (s.refreshReason n p) [.stations] := by
  unfold State.refreshReason
  split
  · exact .refl _ _
  · exact mapEntries_onlyChanges s n _

theorem joinOrder_onlyChanges (s : State) (n : StationId) (o : Order) (p : Pos) :
    OnlyChanges s (s.joinOrder n o p) swapAreas := by
  unfold State.joinOrder
  split
  · exact (((makeEntry_onlyChanges s n p).mono (by simp)).trans
      ((mapEntries_onlyChanges _ n _).mono (by simp))).trans ((noticeIfOrdered_onlyChanges _ n).mono (by simp))
  · split
    · exact .refl _ _
    · exact ((refreshReason_onlyChanges s n p).mono (by simp)).trans
        ((noticeIfOrdered_onlyChanges _ n).mono (by simp))

theorem placeNeed_onlyChanges (s : State) (n : StationId) (p : Pos) (trip : Bool) :
    OnlyChanges s (s.placeNeed n p trip) swapAreas := by
  unfold State.placeNeed
  split
  · exact .refl _ _
  · split
    · exact joinOrder_onlyChanges s n _ p
    · split
      · dsimp only
        split
        · exact ((joinWindow_onlyChanges s n _ p).mono (by simp)).trans (closeWindow_onlyChanges _ n)
        · exact (joinWindow_onlyChanges s n _ p).mono (by simp)
      · split
        · exact formOrder_onlyChanges s n _
        · exact (setSwap_onlyChanges s n _).mono (by simp [swapAreas])

/-- The needs of an OFFLINE station wait (R106, R143). -/
theorem placeNeed_offline {s : State} {n : StationId} (h : s.stationState n = .offline) (p : Pos)
    (trip : Bool) : s.placeNeed n p trip = s := by
  simp [State.placeNeed, h]

theorem raiseNeed_onlyChanges (s : State) (r : RoleId) (trip : Bool) :
    OnlyChanges s (s.raiseNeed r trip) swapAreas := by
  unfold State.raiseNeed
  split
  · exact ((setRoleState_onlyChanges s r _).mono (by simp)).trans (placeNeed_onlyChanges _ _ _ _)
  · exact placeNeed_onlyChanges _ _ _ _
  · exact placeNeed_onlyChanges _ _ _ _
  · exact placeNeed_onlyChanges _ _ _ _
  · split
    · exact closeWindow_onlyChanges _ _
    · exact .refl _ _
  · exact .refl _ _
  · exact .refl _ _

/-! ### The end of an order -/

theorem completeIfDone_onlyChanges (s : State) (n : StationId) :
    OnlyChanges s (s.completeIfDone n) [.stations, .links, .notices] := by
  unfold State.completeIfDone
  split
  · exact .refl _ _
  · split
    · exact (((setSwap_onlyChanges s n _).mono (by simp)).trans
        ((releaseFromOrder_onlyChanges _ n).mono (by simp))).trans ((queueNotice_onlyChanges _ n _).mono (by simp))
    · exact .refl _ _

theorem unqueueEntry_onlyChanges (s : State) (n : StationId) (e : Entry) :
    OnlyChanges s (s.unqueueEntry n e) [.pools] := by
  unfold State.unqueueEntry
  split
  · exact dequeue_onlyChanges s _
  · exact .refl _ _

theorem returnEntry_onlyChanges (s : State) (e : Entry) : OnlyChanges s (s.returnEntry e) offerAreas := by
  unfold State.returnEntry
  split
  · split
    · exact returnTool_onlyChanges s _
    · exact .refl _ _
  · exact .refl _ _

theorem settleEntry_onlyChanges (s : State) (n : StationId) (e : Entry) :
    OnlyChanges s (s.settleEntry n e) [.roles] := by
  unfold State.settleEntry
  split
  · exact .refl _ _
  · exact setRoleState_onlyChanges s _ _

theorem withdrawOrder_onlyChanges (s : State) (n : StationId) (o : Order) :
    OnlyChanges s (s.withdrawOrder n o) offerAreas := by
  unfold State.withdrawOrder
  exact ((((OnlyChanges.foldl _ (fun s e => unqueueEntry_onlyChanges s n e) _ s).mono (by simp)).trans
    (OnlyChanges.foldl _ (fun s e => returnEntry_onlyChanges s e) _ _)).trans
    ((OnlyChanges.foldl _ (fun s e => settleEntry_onlyChanges s n e) _ _).mono (by simp))).trans
    ((setSwap_onlyChanges _ n _).mono (by simp))

theorem leaveWindow_onlyChanges (s : State) (n : StationId) (p : Pos) :
    OnlyChanges s (s.leaveWindow n p) [.stations] := by
  unfold State.leaveWindow
  dsimp only
  split
  · exact .refl _ _
  · exact setSwap_onlyChanges s n _

theorem withdrawEntry_onlyChanges (s : State) (n : StationId) (e : Entry) :
    OnlyChanges s (s.withdrawEntry n e) swapAreas := by
  unfold State.withdrawEntry
  exact ((((mapEntries_onlyChanges s n _).mono (by simp)).trans
    ((unqueueEntry_onlyChanges _ n e).mono (by simp))).trans ((returnEntry_onlyChanges _ e).mono (by simp))).trans
    ((completeIfDone_onlyChanges _ n).mono (by simp))

/-! ### Adoption -/

theorem adoptRole_onlyChanges (s : State) (r : RoleId) :
    OnlyChanges s (s.adoptRole r) [.tools, .histories, .roles, .marks] := by
  unfold State.adoptRole
  dsimp only
  split
  · exact .refl _ _
  · refine (((?_ : OnlyChanges s _ _).trans ((putTool_onlyChanges _ _ _).mono (by simp))).trans
      (((setHistory_onlyChanges _ _ _).mono (by simp)).trans ((putRole_onlyChanges _ _ _).mono (by simp)))).trans
      ((setRoleState_onlyChanges _ _ _).mono (by simp))
    split
    · exact .refl _ _
    · exact (putTool_onlyChanges _ _ _).mono (by simp)

/-- A role without a staged tool adopts nothing (R165). -/
theorem adoptRole_none {s : State} {r : RoleId} (h : (s.role r).record.staged = none) : s.adoptRole r = s := by
  simp [State.adoptRole, h]

theorem adoptStation_onlyChanges (s : State) (n : StationId) :
    OnlyChanges s (s.adoptStation n) [.tools, .histories, .roles, .marks] :=
  OnlyChanges.foldl _ (fun s p => adoptRole_onlyChanges s ⟨n, p⟩) _ s

theorem placeAdopted_onlyChanges (s : State) (n : StationId) (ps : List Pos) :
    OnlyChanges s (s.placeAdopted n ps) swapAreas := by
  refine OnlyChanges.foldl _ (fun s p => ?_) ps s
  split
  · exact placeNeed_onlyChanges _ _ _ _
  · exact .refl _ _

/-! ### Wear, warnings and trips -/

theorem putWorn_onlyChanges (s : State) (u : ToolId) (x : ToolRecord) :
    OnlyChanges s (s.putWorn u x) swapAreas := by
  unfold State.putWorn
  dsimp only
  split
  · split
    · exact ((putTool_onlyChanges s u x).mono (by simp)).trans (raiseNeed_onlyChanges _ _ _)
    · exact (putTool_onlyChanges s u x).mono (by simp)
  · exact (putTool_onlyChanges s u x).mono (by simp)

theorem warnTool_onlyChanges (s : State) (u : ToolId) :
    OnlyChanges s (s.warnTool u) [.tools, .notices, .marks] := by
  unfold State.warnTool
  dsimp only
  split
  · split
    · exact ((putTool_onlyChanges s u _).mono (by simp)).trans ((queueNotice_onlyChanges _ _ _).mono (by simp))
    · exact (putTool_onlyChanges s u _).mono (by simp)
  · exact .refl _ _

theorem evaluateWarn_onlyChanges (s : State) (u : ToolId) :
    OnlyChanges s (s.evaluateWarn u) [.tools, .notices, .marks] := by
  unfold State.evaluateWarn
  dsimp only
  split
  · exact warnTool_onlyChanges s u
  · exact (putTool_onlyChanges s u _).mono (by simp)

theorem evaluateLife_onlyChanges (s : State) (u : ToolId) :
    OnlyChanges s (s.evaluateLife u) swapAreas := by
  unfold State.evaluateLife
  exact (((putTool_onlyChanges s u _).mono (by simp)).trans ((evaluateWarn_onlyChanges _ u).mono (by simp))).trans
    (putWorn_onlyChanges _ u _)

theorem trip_onlyChanges (s : State) (u : ToolId) (x : TripRecord) :
    OnlyChanges s (s.trip u x) swapAreas := by
  unfold State.trip
  dsimp only
  split
  · exact (((putTool_onlyChanges s u _).mono (by simp)).trans ((halt_onlyChanges _ _ _ _).mono (by simp))).trans
      (raiseNeed_onlyChanges _ _ _)
  · exact (putTool_onlyChanges s u _).mono (by simp)

theorem giveVerdict_onlyChanges (s : State) (u : ToolId) (v : Verdict) (x : TripRecord) :
    OnlyChanges s (s.giveVerdict u v x) (.histories :: swapAreas) := by
  unfold State.giveVerdict
  dsimp only
  split
  · exact ((setHistory_onlyChanges s u _).mono (by simp)).trans ((trip_onlyChanges _ u _).mono (by simp))
  · exact (setHistory_onlyChanges s u _).mono (by simp)

/-! ### Plans, Swap Done and directives -/

/-- R59: what stands where a part is closed. -/
theorem closed_givesWay (x : PlanSlots) : GivesWay x x.closed := by
  unfold GivesWay PlanSlots.closed
  cases h : x.active with
  | none => simp
  | some a => cases h2 : a.mode <;> simp [h2]

/-- R59: what an adoption does to the slots. -/
theorem adoptPlan_adopts (s : State) (n : StationId) (p : Plan) :
    Adopts (s.station n).plans p ((s.adoptPlan n p).station n).plans := by
  unfold Adopts State.adoptPlan
  cases h : p.mode <;> simp

/-- R155: what the confirmation of one entry may touch. -/
theorem confirm_onlyChanges (s : State) (r : RoleId) (t : ToolId) :
    OnlyChanges s (s.confirm r t) [.tools, .roles, .stations, .marks] := by
  unfold State.confirm
  exact (((((mapEntries_onlyChanges s _ _).mono (by simp)).trans ((putTool_onlyChanges _ t _).mono (by simp))).trans
    ((putRole_onlyChanges _ r _).mono (by simp))).trans ((setRoleState_onlyChanges _ r _).mono (by simp))).trans
    (((mark_onlyChanges _ _).mono (by simp)).trans ((mark_onlyChanges _ _).mono (by simp)))

/-- R129: a state directive's payload has the bytes of a directive. -/
theorem payload_directiveBytes (d : StateDirective) : DirectiveBytes d.payload := by
  cases d with
  | halt c => exact .inl ⟨c.code, by cases c <;> decide, rfl⟩
  | hold => exact .inr (.inl rfl)
  | release => exact .inr (.inr (.inl rfl))

/-- R129: a DRESS that names wheel positions in ascending order has the bytes of a directive. -/
theorem dressPayload_directiveBytes {ps : List Pos} (some : ps ≠ []) (h : ps.Sublist [1, 2, 3, 4]) :
    DirectiveBytes (dressPayload ps) :=
  .inr (.inr (.inr ⟨ps, some, h, by simp only [dressPayload, le, List.map_eq_flatMap, List.cons_append, List.nil_append]⟩))

/-- R80, R129: the positions a DRESS names stand in ascending order. -/
theorem dressDuePositions_sublist (s : State) (n : StationId) : (s.dressDuePositions n).Sublist [1, 2, 3, 4] :=
  List.filter_sublist

end Sys2Proof.Machine
end

