-- ==== Sys2Proof/Tests/Slice0.lean ====
section
/-!
SUPPORT. The tests: the well-formedness smoke, the spec's worked numbers, a few single steps, and for every
statement that has hypotheses a witness that meets them, clause by clause at the ends of its ranges.
-/

namespace Sys2Proof.Tests

open Sys2Proof.Machine

/- The kernel evaluates most of these; one after another, so that few of them wait for it at once. -/
set_option Elab.async false

/-! ### Well-formedness -/

/-- R166: a frame carries at least one payload byte. -/
theorem test_wellFormed_refuses_empty_arrivals :
    ¬ Instr.WellFormed (.cellFrameArrival []) ∧ ¬ Instr.WellFormed (.stationRecordArrival 0 []) := by
  decide

/-- R166: a frame carries at most 480 payload bytes. -/
theorem test_wellFormed_refuses_long_arrivals :
    ¬ Instr.WellFormed (.cellFrameArrival (List.replicate 481 0))
      ∧ ¬ Instr.WellFormed (.stationRecordArrival 7 (List.replicate 481 0)) := by
  decide +kernel

theorem test_wellFormed_takes_480_bytes :
    Instr.WellFormed (.cellFrameArrival (List.replicate 480 0))
      ∧ Instr.WellFormed (.stationRecordArrival 7 [0x01]) := by
  decide +kernel

/-- An arrival of no frame faults. -/
theorem test_empty_arrival_faults : exec (.cellFrameArrival []) State.reset = .fault .noSuchFrame := rfl

/-! ### Worked numbers of the spec -/

/-- R166: the check over "123456789", and the Status request of chapter 9's worked sequence. -/
theorem test_frame_check_examples :
    crc [0x31, 0x32, 0x33, 0x34, 0x35, 0x36, 0x37, 0x38, 0x39] = 0x29B1
      ∧ frameBytes [0x61] = [0xA6, 0x01, 0x00, 0x61, 0x87, 0x2B] := by
  decide +kernel

/-- R166: the check computed bit by bit gives the same numbers. -/
theorem test_frame_check_bit_by_bit :
    frameCheck [0x31, 0x32, 0x33, 0x34, 0x35, 0x36, 0x37, 0x38, 0x39] = 0x29B1
      ∧ wireBytes [0x61] (frameCheck (covered [0x61])) = [0xA6, 0x01, 0x00, 0x61, 0x87, 0x2B] := by
  decide +kernel

/-- Chapter 2, worked cases: cut charge. -/
theorem test_cut_charges :
    [5200, 4000, 1500, 12000, 0, 20000].map (fun e => cutCharge 120 (rawRatio e 4000))
        = [156, 120, 60, 360, 60, 480]
      ∧ rawRatio 65535 1 = 16776960 ∧ cutCharge 4000 16776960 = 16000 ∧ cutCharge 1 96 = 1 := by
  decide

/-- Chapter 2, worked cases: dress interval and overdue threshold. -/
theorem test_overdue_thresholds : [900, 40000, 32767].map overdueThreshold = [1800, 65535, 65534] := by
  decide

/-- Chapter 2, worked cases: a wheel's last dresses. -/
theorem test_last_dresses :
    remainingDresses 610000 600000 25 = 2000
      ∧ [600017, 600012, 600007, 600002, 599012].map (fun d => remainingDresses d 600000 25) = [3, 2, 1, 0, 0]
      ∧ diameterLoss (effectiveDepth 37 25) = 8 ∧ diameterLoss (effectiveDepth 6000 25) = 1000
      ∧ diameterLoss (effectiveDepth 0 25) = 5 := by
  decide

/-- Chapter 2, worked cases: dresser charge, at dress_cost 30. -/
theorem test_dresser_charges :
    [(37, 25), (0, 25), (6000, 25), (1, 5000), (12, 40)].map
      (fun x => dresserCharge 30 (effectiveDepth x.1 x.2) x.2) = [45, 30, 120, 0, 9] := by
  decide

/-- Chapter 2, the table of R42. -/
theorem test_projections :
    [projectionOf 1 196 0, projectionOf 1 196 15, projectionOf 3 192 0, projectionOf 2000 0 5,
      projectionOf 0 196 4, projectionOf 1160000 1048560 0] = [24, 12, 48, 0, 8, 16777215] := by
  decide

/-- Chapter 10: the scan order runs from tool 1 to the settings of station 8, 120 records in all. -/
theorem test_scan_order_is_places : scanOrder.map (fun id => id.place.val) = List.range 120 := by
  decide +kernel

/-! ### Small states -/

/-- A wheel with 7500 dresses left. -/
def wheelLife : WheelLife := ⟨400000, 350000, 380000, 20, 800, 10⟩

/-- A wheel of pool 1 in a state, at a role or at none. -/
def wheel (st : ToolState) (link : Option RoleLink) : ToolRecord :=
  { ToolRecord.vacant with state := st, life := .wheel wheelLife, pool := some 0, label := [0x41], link := link }

/-- A dresser of pool 1. -/
def dresser (st : ToolState) (link : Option RoleLink) : ToolRecord :=
  { wheel st link with life := .dresser ⟨1000, 10⟩ }

def spindle : RoleId := ⟨0, 1⟩

def dressing : RoleId := ⟨0, 0⟩

/-- A defined role of pool 1 with this current tool. -/
def toolRole (t : ToolId) : RoleRecord := { RoleRecord.undefined with defined := true, pool := some 0, current := some t }

def planStep : PlanStep := ⟨1, 1, .rough, 120, 4000, 1500, 200⟩

def plan : Plan := ⟨5, .standing, [planStep]⟩

/-- A tool record of the state replaced. -/
def withTool (s : State) (t : ToolId) (x : ToolRecord) : State := { s with tools := s.tools.set t x }

/-- Station 1 READY with a plan, tool 1 dressing, tool 2 at its first spindle and tool 3 in the store. -/
def shop : State :=
  let tools := withTool (withTool (withTool State.reset 0 (dresser .active (some ⟨dressing, .current⟩))) 1
    (wheel .active (some ⟨spindle, .current⟩))) 2 (wheel .stored none)
  let roles := (tools.setRole dressing ⟨toolRole 0, .running⟩).setRole spindle ⟨toolRole 1, .running⟩
  ((roles.setPlans 0 ⟨some plan, none, none⟩).setStationState 0 .ready)

/-- The station's state replaced, with a part in progress or none. -/
def standing (s : State) (st : StationState) (part : Option Machine.Part) : State :=
  let s1 := s.setStationState 0 st
  s1.setIntake 0 { (s1.station 0).intake with part := part }

/-- Part 7, in which tool 2 has cut. -/
def part : Machine.Part := ⟨7, [⟨1, 1, true⟩]⟩

/-- Station 1 with part 7 in progress. -/
def grinding : State := standing shop .inPart (some part)

/-- Station 1 as it takes its next record. -/
def bringing (s : State) (r : StationRecord) : State :=
  s.setIntake 0 { (s.station 0).intake with queue := [⟨1, r, 5⟩] }

/-- The part as it takes its next request. -/
def asking (s : State) (p : Payload) : State := { s with cell := ⟨[p], none⟩ }

/-- A worn wheel at the spindle, its role NEEDY. -/
def needy : State :=
  (withTool shop 1 (wheel .worn (some ⟨spindle, .current⟩))).setRoleState spindle .needy

/-- An entry for the spindle. -/
def entry (st : EntryState) (incoming : Option ToolId) : Entry := ⟨1, 1, incoming, .worn, st⟩

/-- A HELD station with one order entry; tool 3 is set aside where the entry is RESERVED. -/
def held (e : Entry) (st : OrderState) : State :=
  let s := (withTool needy 2 (wheel .reserved (some ⟨spindle, .reserved⟩))).setStationState 0 .held
  (s.setRoleState spindle (if e.state = .waiting then .waiting else .reserved)).setSwap 0
    ⟨none, some ⟨st, [e], 900000, 0⟩⟩

/-- An open window with the spindle in its need list. -/
def waitingWindow (close cap : Time) : State :=
  { needy.setSwap 0 ⟨some ⟨[1], close, cap⟩, none⟩ with timeBase := 5000 }

theorem asks (s : State) (p : Payload)
    (h : s.powered = true ∧ (s.link 0).pendingRate = none) : TakesRequest (asking s p) p [] := by
  refine ⟨h.1, rfl, ?_⟩
  have h2 := h.2
  simp only [State.link] at h2
  simp only [State.canTake, State.rateDue, asking, State.link]
  simpa using Or.inl h2

theorem brings (s : State) (r : StationRecord)
    (h : s.powered = true ∧ s.stationState 0 ≠ .offline) : TakesRecord (bringing s r) 0 r 5 [] := by
  refine ⟨h.1, ?_, 1, ?_⟩
  · have h2 := h.2
    simp only [State.stationState, State.station] at h2
    simpa [bringing, State.stationState, State.setIntake, State.setStation, State.station] using h2
  · simp [bringing, State.setIntake, State.setStation, State.station]

theorem none_all {α : Type} {o : Option α} {p : α → Prop} (h : o = none) : ∀ x, o = some x → p x := by
  subst h; simp

/-- The byte read back from what a test's command answers. -/
def after (c : Instr) (s : State) : State :=
  match exec c s with
  | .next t => t
  | _ => s

/-! ### Single steps -/

/-- R31, R76: the cut of the first worked case charges 156 WU, and the pointer moves to its step. -/
theorem test_cut_charges_tool :
    let t := after (.cut 0) (bringing grinding (.cut 1 900 5200))
    (t.tool 1).acc.wd = 156 ∧ (t.station 0).intake.pointer = 1 ∧ t.history 1 = [.clean] := by
  decide +kernel

/-- R92, R94: a peak above peak_hi breaks the tool and halts the station, and its order forms at once. -/
theorem test_overload_forms_order :
    let t := after (.cut 0) (bringing grinding (.cut 1 1501 5200))
    (t.tool 1).state = .broken ∧ t.stationState 0 = .halted
      ∧ t.notices = [⟨0, .halt⟩, ⟨0, .swapOrder⟩]
      ∧ (t.station 0).swap.order.map (fun o => o.entries) = some [⟨1, 1, some 2, .broken, .reserved⟩] := by
  decide +kernel

/-- R85: a peak equal to peak_hi is no overload. -/
theorem test_peak_at_limit_is_clean :
    (after (.cut 0) (bringing grinding (.cut 1 1500 5200))).history 1 = [.clean] := by
  decide +kernel

/-- R79: a PART_END with the part's tag counts the part to its tool and makes the station READY. -/
theorem test_part_end_counts :
    let t := after (.partEnd 0) (bringing grinding (.partEnd 7 .good))
    (t.tool 1).acc.partsTotal = 1 ∧ t.stationState 0 = .ready ∧ (t.station 0).intake.counters.good = 1 := by
  decide +kernel

/-- R155, R157: Swap Done stages the incoming tool, marks it and its role, and completes the order. -/
theorem test_swap_done_stages :
    let t := after .swapDone (asking (held (entry .reserved (some 2)) .ordered) [0x50, 1, 1, 1])
    (t.role spindle).record.staged = some 2 ∧ (t.station 0).swap.order = none ∧ t.stationState 0 = .ready
      ∧ t.store.marked[(RecordId.tool 2).place] = true ∧ t.store.marked[(RecordId.role spindle).place] = true := by
  decide +kernel

/-- R177: a request of the wrong length is answered BAD_LENGTH. -/
theorem test_bad_length_is_answered :
    (after .toolPin (asking shop [0x14])).cell.reply = some [[0x80, 0x14, 0x02]] := by
  decide +kernel

/-- R26: a PINNED VACANT tool's summary is its number and zeros. -/
theorem test_vacant_summary_is_zero :
    summaryBytes 5 { ToolRecord.vacant with flags := { noFlags with pinned := true } }
      = 6 :: List.replicate 27 0 := by
  decide +kernel

/-- R191: start-up over the factory copies leaves the factory-fresh part. -/
theorem test_power_up_of_factory_tools : (after (.powerUp .earlier) State.reset).tools = State.reset.tools := by
  decide +kernel

/-! ### Witnesses: the machine and the links -/

theorem witness_EmptyQueueRunsClock :
    (shop.pending = [] ∧ shop.powered = true ∧ (shop.station 0).swap.order = none)
      ∧ ({ shop with powered := false } : State).pending = []
      ∧ (held (entry .waiting none) .ordered).pending = [] ∧ (held (entry .waiting none) .deferred).pending = [] := by
  decide +kernel

/-- What a link is still sending. -/
def sends (l : LinkId) (x : Tx) (s : State) : State := s.setLink l { s.link l with sending := some x }

/-- A link that sends its last millisecond and one with a bit more; a reply's last frame and one before it; no reply
among what is sent. -/
theorem witness_EmptyQueueRunsTransmitters :
    let last := sends 0 ⟨.reply [0x61], 115200⟩ { shop with cell := ⟨[], some []⟩ }
    let more := sends 0 ⟨.reply [0x61], 115201⟩ { shop with cell := ⟨[], some []⟩ }
    let early := sends 0 ⟨.reply [0x61], 115200⟩ { shop with cell := ⟨[], some [[0x62]]⟩ }
    let other := sends 8 ⟨.answer .taken, 10000⟩ { shop with cell := ⟨[], some []⟩ }
    (∀ s ∈ [last, more, early, other], s.pending = [] ∧ s.powered = true)
      ∧ (∀ s ∈ [last, more, early], (s.link 0).rate = .r115200) ∧ (shop.link 0).sending = none
      ∧ (last.link 0).sending = some ⟨.reply [0x61], 115200⟩ ∧ (more.link 0).sending = some ⟨.reply [0x61], 115201⟩
      ∧ last.cell.reply = some [] ∧ early.cell.reply = some [[0x62]]
      ∧ (other.link 0).sending = none ∧ (other.link 8).sending = some ⟨.answer .taken, 10000⟩ := by
  decide +kernel

theorem witness_CommandsLeaveQueue : ∃ t, exec .status State.reset = .next t := ⟨_, rfl⟩

theorem witness_FrameReceivedByteByByte :
    Payload.fits [0x61] ∧ Payload.fits (List.replicate 480 0x61) ∧ State.reset.powered = true
      ∧ (State.reset.link 0).framer = .hunt false ∧ (State.reset.link 8).framer = .hunt false
      ∧ (8 : LinkId) = stationLink 7 ∧ (0x872C : BitVec 16) ≠ frameCheck (covered [0x61]) := by
  decide +kernel

/-- The lead byte; another byte outside a run; another within one. -/
theorem witness_HuntTreatsByte :
    State.reset.powered = true ∧ (State.reset.link 0).framer = .hunt false
      ∧ ((State.reset.setFramer 8 (.hunt true)).link 8).framer = .hunt true ∧ (0xA7 : Byte) ≠ 0xA6 := by
  decide +kernel

/-- The first length byte; L of 0, 1, 480, 481 and 65,535; DISCARD with 1 and 2 bytes to skip. -/
theorem witness_LengthDecidesPhase :
    ((State.reset.setFramer 0 (.length none 0 0)).link 0).framer = .length none 0 0
      ∧ ((State.reset.setFramer 0 (.length (some 0) 0 0)).link 0).framer = .length (some 0) 0 0
      ∧ (0 : Nat) = (0 : Byte).toNat + 256 * (0 : Byte).toNat
      ∧ (1 : Nat) = (1 : Byte).toNat + 256 * (0 : Byte).toNat
      ∧ (480 : Nat) = (0xE0 : Byte).toNat + 256 * (1 : Byte).toNat
      ∧ (481 : Nat) = (0xE1 : Byte).toNat + 256 * (1 : Byte).toNat
      ∧ (65535 : Nat) = (0xFF : Byte).toNat + 256 * (0xFF : Byte).toNat
      ∧ ((State.reset.setFramer 8 (.discard 1 0)).link 8).framer = .discard 1 0
      ∧ ((State.reset.setFramer 8 (.discard 2 0)).link 8).framer = .discard 2 0 := by
  decide +kernel

/-- 24 and 25 ms after the last byte, in PAYLOAD and in DISCARD. -/
theorem witness_GapEndsFrame :
    let s : State := { State.reset with timeBase := 25 }
    ((s.setFramer 0 (.payload [] 3 0 1)).link 0).framer.lastByte = some 1 ∧ (s.timeBase - 1).toNat < 25
      ∧ ((s.setFramer 0 (.payload [] 3 0 0)).link 0).framer.lastByte = some 0 ∧ 25 ≤ (s.timeBase - 0).toNat
      ∧ ((s.setFramer 0 (.discard 7 0)).link 0).framer = .discard 7 0 := by
  decide +kernel

/-- A link that is sending, and one that is idle. -/
def busy (l : LinkId) (s : State) : State := s.transmit l (.answer .taken)

theorem witness_AskedItemsBeginOrWait :
    (State.reset.link 0).sending = none ∧ State.reset.rateDue 0 = false ∧ (State.reset.link 0).answers = []
      ∧ ((busy 1 State.reset).link 1).sending = some ⟨.answer .taken, 10000⟩
      ∧ ((busy 1 State.reset).link 1).answers.length < 488
      ∧ (State.reset.link (stationLink 0)).sending = none ∧ State.reset.rateDue (stationLink 0) = false
      ∧ (State.reset.link (stationLink 0)).answers = [] ∧ stationLink 0 = 1
      ∧ (State.reset.station 0).control.stateSlot = none ∧ ([1, 4] : List Pos) ≠ [] := by
  decide +kernel

/-- Station 1's link free, also with a state directive waiting, and sending. -/
theorem witness_AskedDress :
    let hold := shop.setControl 0 { (shop.station 0).control with stateSlot := some .hold }
    LinkFree shop (stationLink 0) ∧ (shop.station 0).control.stateSlot = none
      ∧ LinkFree hold (stationLink 0) ∧ (hold.station 0).control.stateSlot = some .hold
      ∧ ¬ LinkFree (busy 1 shop) (stationLink 0) := by
  unfold LinkFree
  decide +kernel

/-- OFFLINE; malformed; repeated; full; queued. -/
theorem witness_StationArrivalChecks :
    let cut : Payload := [0x02, 9, 1, 0, 0, 0, 0]
    let full := shop.setIntake 0 { (shop.station 0).intake with queue := List.replicate 16 ⟨1, .cut 1 0 0, 5⟩ }
    let last := shop.setIntake 0 { (shop.station 0).intake with lastNumber := some 9 }
    Payload.fits cut ∧ Payload.fits [0x09] ∧ shop.powered = true
      ∧ (State.reset.station 0).control.state = .offline ∧ (shop.station 0).control.state ≠ .offline
      ∧ parseRecord [0x09] = none ∧ parseRecord cut = some (9, .cut 1 0 0)
      ∧ (last.station 0).intake.lastNumber = some 9 ∧ 16 ≤ (full.station 0).intake.queue.length
      ∧ (full.station 0).intake.lastNumber ≠ some 9 ∧ (shop.station 0).intake.queue.length < 16 := by
  decide +kernel

theorem witness_RecordLayouts :
    (1 : Pos) ≠ 0 ∧ (4 : Pos) ≠ 0 ∧ gaugeOfCode (1 : Byte).toNat = some .good
      ∧ gaugeOfCode (3 : Byte).toNat = some .scrap := by
  decide

theorem witness_CellArrivalQueues :
    Payload.fits [0x61] ∧ State.reset.powered = true ∧ State.reset.cell.intake.length < 4
      ∧ 4 ≤ ({ State.reset with cell := ⟨List.replicate 4 [0x61], none⟩ } : State).cell.intake.length := by
  decide +kernel

/-- An idle station link with an answer and a directive waiting, with a state directive, with a DRESS. -/
theorem witness_StationLinkPrecedence :
    let hold := State.reset.setControl 0 { (State.reset.station 0).control with stateSlot := some .hold }
    let answer := hold.setLink 1 { hold.link 1 with answers := [.taken] }
    let dress := State.reset.setControl 0 { (State.reset.station 0).control with dressSlot := some [1, 4] }
    stationLink 0 = 1 ∧ (answer.link 1).sending = none ∧ answer.rateDue 1 = false
      ∧ (answer.link 1).answers = [.taken] ∧ (hold.link 1).answers = []
      ∧ (hold.station 0).control.stateSlot = some .hold ∧ hold.rateDue 1 = false
      ∧ (dress.station 0).control.stateSlot = none ∧ (dress.station 0).control.dressSlot = some [1, 4]
      ∧ dress.rateDue 1 = false ∧ (dress.link 1).answers = [] := by
  decide +kernel

/-- An idle cell link with a reply waiting, with a notice alone, with an answer before both. -/
theorem witness_CellLinkPrecedence :
    let reply : State := { State.reset with cell := ⟨[], some [[0x80, 0x14, 0x00]]⟩ }
    let notice : State := { State.reset with notices := [⟨7, .halt⟩] }
    let both : State := { reply with notices := [⟨7, .halt⟩] }
    let answer := both.setLink 0 { both.link 0 with answers := [.taken, .full] }
    reply.powered = true ∧ (reply.link 0).sending = none ∧ reply.rateDue 0 = false ∧ (reply.link 0).answers = []
      ∧ reply.cell.reply = some [[0x80, 0x14, 0x00]]
      ∧ notice.powered = true ∧ (notice.link 0).sending = none ∧ notice.rateDue 0 = false
      ∧ (notice.link 0).answers = [] ∧ notice.notices = [⟨7, .halt⟩] ∧ notice.cell.replyWaits = false
      ∧ answer.powered = true ∧ (answer.link 0).sending = none ∧ answer.rateDue 0 = false
      ∧ (answer.link 0).answers = .taken :: [.full] := by
  decide +kernel

/-- The present rate; another on an idle station link; another on link 0 and on a sending link; a due change. -/
theorem witness_LinkRateIsSet :
    TakesRequest (asking shop [0x60, 8, 1]) [0x60, BitVec.ofNat 8 (8 : LinkId).val, BitVec.ofNat 8 Rate.r19200.code] []
      ∧ TakesRequest (asking shop [0x60, 0, 6]) [0x60, BitVec.ofNat 8 (0 : LinkId).val, BitVec.ofNat 8 Rate.r460800.code] []
      ∧ (shop.link 8).pendingRate.getD (shop.link 8).rate = .r115200 ∧ (shop.link 8).sending = none
      ∧ ((busy 8 shop).link 8).sending ≠ none
      ∧ (let s := shop.setLink 8 { shop.link 8 with pendingRate := some .r19200 }
        s.powered = true ∧ (s.link 8).pendingRate = some .r19200 ∧ (s.link 8).sending = none)
      ∧ (let s := shop.setLink 0 { shop.link 0 with pendingRate := some .r19200 }
        (s.link 0).pendingRate = some .r19200 ∧ (s.link 0).sending = none ∧ s.cell.reply = none) :=
  ⟨asks _ _ (by decide +kernel), asks _ _ (by decide +kernel), by decide +kernel⟩

/-! ### Witnesses: the record store and start-up -/

/-- The end of the hold at time base 50 with nothing marked and with a record marked; a command at 49. -/
theorem witness_WriteBeginsInScanOrder :
    let s : State := { State.reset with timeBase := 50 }
    let early : State := { State.reset with timeBase := 49 }
    s.powered = true ∧ s.store.hold = true ∧ 50 ≤ s.timeBase.toNat ∧ s.store.inFlight = none
      ∧ (∀ p : Fin 120, s.store.marked[p] = false)
      ∧ (s.mark (.tool 0)).store.marked[(RecordId.tool 0).place] = true
      ∧ (s.mark (.settings 7)).store.marked[(RecordId.settings 7).place] = true
      ∧ early.store.hold = true ∧ early.store.inFlight = none ∧ early.timeBase.toNat < 50
      ∧ (match exec .status early with | .next _ => true | _ => false) = true := by
  decide +kernel

/-- A write in flight. -/
def writing (c : Content) (s : State) : State := { s with store := { s.store with inFlight := some c, hold := false } }

/-- A write in flight: the hold has ended, with another record marked and with none, and the hold still on. -/
theorem witness_WriteBegins :
    let s := writing (.plan 0 none) shop
    let holds : State := { s with store := { s.store with hold := true } }
    s.store.hold = false ∧ (∀ p : Fin 120, s.store.marked[p] = false)
      ∧ (s.mark (.settings 7)).store.marked[(RecordId.settings 7).place] = true
      ∧ (s.mark (.settings 7)).store.inFlight = some (.plan 0 none)
      ∧ holds.store.hold = true ∧ holds.store.inFlight = some (.plan 0 none) := by
  decide +kernel

theorem witness_WritePasses :
    (writing (.tool 63 .vacant) shop).powered = true
      ∧ (writing (.tool 63 .vacant) shop).store.inFlight = some (.tool 63 .vacant)
      ∧ (writing (.role ⟨7, 4⟩ .undefined) shop).store.inFlight = some (.role ⟨7, 4⟩ .undefined)
      ∧ (writing (.plan 0 none) shop).store.inFlight = some (.plan 0 none)
      ∧ (writing (.settings 7 .default) shop).store.inFlight = some (.settings 7 .default) := by
  decide +kernel

/-- A first failure, and the third one with the store OK and with it FAILED. -/
theorem witness_WriteFails :
    let s := writing (.plan 0 none) shop
    let third : State := { s with store := { s.store with failures := .replicate 120 2 } }
    let failed : State := { third with store := { third.store with state := .failed } }
    s.powered = true ∧ s.store.inFlight = some (.plan 0 none)
      ∧ s.store.failures[(Content.plan 0 none).id.place] < 2
      ∧ third.store.inFlight = some (.plan 0 none) ∧ 2 ≤ third.store.failures[(Content.plan 0 none).id.place]
      ∧ third.stationState 0 ≠ .offline ∧ third.stationState 7 = .offline
      ∧ third.store.state = .ok ∧ failed.store.inFlight = some (.plan 0 none) ∧ failed.store.state = .failed := by
  decide +kernel

theorem witness_PowerLossKeepsCopies :
    shop.store.inFlight = none
      ∧ (writing (.tool 0 .vacant) shop).store.inFlight = some (.tool 0 .vacant)
      ∧ (Content.tool 0 .vacant).id ≠ .tool 1 ∧ (Content.tool 0 .vacant).id ≠ .role ⟨0, 0⟩
      ∧ (Content.tool 0 .vacant).id ≠ .plan 0 ∧ (Content.tool 0 .vacant).id ≠ .settings 0
      ∧ (writing (.role ⟨7, 4⟩ .undefined) shop).store.inFlight = some (.role ⟨7, 4⟩ .undefined)
      ∧ (writing (.plan 7 none) shop).store.inFlight = some (.plan 7 none)
      ∧ (writing (.settings 7 .default) shop).store.inFlight = some (.settings 7 .default) := by
  decide +kernel

/-- A part whose stored copies hold a tool in service. -/
def stored : State :=
  { shop with copies := { shop.copies with
      tools := shop.tools.map .sound, roles := shop.roles.map fun x => x.map fun r => .sound r.record } }

theorem witness_StartUpLeavesStationsOffline :
    let t := after (.powerUp .earlier) stored
    (t.role spindle).record.defined = true ∧ (t.role spindle).record.current = some 1
      ∧ (t.tool 1).state = .active := by
  decide +kernel

/-- R190: start-up with no write in flight leaves the stored copies, and with one carried it leaves that content. -/
theorem test_power_up_keeps_copies :
    (after (.powerUp .carried) stored).copies = stored.copies
      ∧ (after (.powerUp .carried) (writing (.plan 7 (some plan)) stored)).copies.plans[(7 : StationId)]
        = .sound (some plan)
      ∧ (after (.powerUp .earlier) (writing (.plan 7 (some plan)) stored)).copies = stored.copies := by
  decide +kernel

/-- A role of pool 1 that names this current tool in its stored record. -/
def spindleAt (p : Pos) (t : ToolId) (s : StoredCopies) : StoredCopies :=
  { s with roles := s.roles.set 0 (s.roles[(0 : StationId)].set p (.sound (toolRole t))) }

/-- A tool record in the store. -/
def keeps (t : ToolId) (x : Stored ToolRecord BadTool) (s : StoredCopies) : StoredCopies :=
  { s with tools := s.tools.set t x }

/-- A wheel at a place of station 1. -/
def wheelAt (p : Pos) (place : Relation) (st : ToolState) : Stored ToolRecord BadTool :=
  .sound (wheel st (some ⟨⟨0, p⟩, place⟩))

/-- What a record with nothing left in it reads as. -/
def blankImage : RawTool := ⟨0, 0, 0, 0, 0, 0, 0, 0, 0, 0, 0, 0, 0, 0, 0, noFlags, none⟩

/-- The copies of a part that lost power while it adopted: at the spindle tool 2 is WORN and tool 3 staged; tool 4 is
set aside for the spindle; tools 5 and 6 name a role that is not defined; tool 7 fails its check; tool 8 is in the
store; tools 9 and 10 both claim position 3, whose record names tool 9; tool 11 is staged at position 4, whose record
names no staged tool. -/
def adoptingCopies : StoredCopies :=
  let roles := spindleAt 1 1 (spindleAt 3 8 (spindleAt 4 11 StoredCopies.factory))
  let low := keeps 1 (wheelAt 1 .current .worn) (keeps 2 (wheelAt 1 .staged .reserved)
    (keeps 3 (wheelAt 1 .reserved .reserved) (keeps 4 (wheelAt 2 .current .active) (keeps 5 (wheelAt 2 .current .worn) roles))))
  keeps 6 (.failing ⟨none, blankImage⟩) (keeps 7 (.sound (wheel .stored none)) (keeps 8 (wheelAt 3 .current .active)
    (keeps 9 (wheelAt 3 .current .worn) (keeps 10 (wheelAt 4 .staged .reserved) low))))

def restarting : State := { State.reset with copies := adoptingCopies }

/-- A tool of the kept records claims the place it names. -/
theorem claims (k : StoredCopies) (p : Pos) (place : Relation) (st : ToolState) (u : ToolId)
    (h : k.tools[u] = wheelAt p place st)
    (r : (k.roleContent ⟨0, p⟩).defined = true ∧ (k.roleContent ⟨0, p⟩).pool = some 0 ∧ posKind p = .wheel)
    (c : (place = .current ∧ (st = .active ∨ st = .worn ∨ st = .broken)) ∨ (place = .staged ∧ st = .reserved)) :
    Claims k ⟨0, p⟩ place u :=
  ⟨_, h, rfl, by simp [RoleLost, r, wheel, ToolRecord.vacant, ToolRecord.kind], c⟩

/-- Whether a stored tool record names a place of a role. -/
def names (k : StoredCopies) (r : RoleId) (place : Relation) (u : ToolId) : Bool :=
  match k.tools[u] with
  | .sound x => x.link == some ⟨r, place⟩
  | .failing _ => false

theorem names_of_claims (k : StoredCopies) (r : RoleId) (place : Relation) (u : ToolId)
    (h : Claims k r place u) : names k r place u = true := by
  obtain ⟨x, hx, hl, -⟩ := h
  simp [names, hx, hl]

/-- Over the adopting copies: a record that fails its check, one that no role has, a reservation, two tools whose role
is lost, and at each place of a role a holder: tool 3 staged, with tool 2 current beside it; tool 9 by its role record,
with tool 10 beside it holding nothing; and tool 12 staged, as its role's only claimant. -/
theorem witness_StartUpLoadsAndSettles :
    let k := adoptingCopies
    (after (.powerUp .earlier) restarting).copies = k ∧ StoredRolesCoherent restarting
      ∧ k.tools[(6 : ToolId)] = .failing ⟨none, blankImage⟩ ∧ k.tools[(7 : ToolId)] = .sound (wheel .stored none)
      ∧ k.tools[(3 : ToolId)] = wheelAt 1 .reserved .reserved
      ∧ k.tools[(4 : ToolId)] = wheelAt 2 .current .active ∧ k.tools[(5 : ToolId)] = wheelAt 2 .current .worn
      ∧ (k.roleContent ⟨0, 2⟩).defined = false
      ∧ Claims k ⟨0, 1⟩ .current 1 ∧ HoldsCurrent k ⟨0, 1⟩ 1 ∧ Claims k ⟨0, 1⟩ .staged 2 ∧ HoldsStaged k ⟨0, 1⟩ 2
      ∧ Claims k ⟨0, 3⟩ .current 8 ∧ HoldsCurrent k ⟨0, 3⟩ 8 ∧ (∀ v, ¬ HoldsStaged k ⟨0, 3⟩ v)
      ∧ Claims k ⟨0, 3⟩ .current 9 ∧ ¬ HoldsCurrent k ⟨0, 3⟩ 9
      ∧ Claims k ⟨0, 4⟩ .staged 10 ∧ HoldsStaged k ⟨0, 4⟩ 10 := by
  have one : ∀ (r : RoleId) (place : Relation) (u : ToolId), (∀ v, names adoptingCopies r place v = true → v = u) →
      ∀ v, Claims adoptingCopies r place v → v = u := fun r place u h v hv => h v (names_of_claims _ _ _ _ hv)
  have no : ∀ (r : RoleId) (place : Relation), (∀ v, names adoptingCopies r place v = false) →
      ∀ v, ¬ Claims adoptingCopies r place v := fun r place h v hv => by
    simpa [h v] using names_of_claims _ _ _ _ hv
  have c1 : Claims adoptingCopies ⟨0, 1⟩ .current 1 :=
    claims _ _ _ .worn _ (by decide +kernel) (by decide +kernel) (.inl ⟨rfl, .inr (.inl rfl)⟩)
  have c2 : Claims adoptingCopies ⟨0, 1⟩ .staged 2 :=
    claims _ _ _ .reserved _ (by decide +kernel) (by decide +kernel) (.inr ⟨rfl, rfl⟩)
  have c8 : Claims adoptingCopies ⟨0, 3⟩ .current 8 :=
    claims _ _ _ .active _ (by decide +kernel) (by decide +kernel) (.inl ⟨rfl, .inl rfl⟩)
  have c9 : Claims adoptingCopies ⟨0, 3⟩ .current 9 :=
    claims _ _ _ .worn _ (by decide +kernel) (by decide +kernel) (.inl ⟨rfl, .inr (.inl rfl)⟩)
  have c10 : Claims adoptingCopies ⟨0, 4⟩ .staged 10 :=
    claims _ _ _ .reserved _ (by decide +kernel) (by decide +kernel) (.inr ⟨rfl, rfl⟩)
  have s3 : (adoptingCopies.roleContent ⟨0, 3⟩).staged = none := by decide +kernel
  have n3 : ∀ v, ¬ Claims adoptingCopies ⟨0, 3⟩ .staged v := no _ _ (by decide +kernel)
  refine ⟨by decide +kernel, ⟨?_, fun r x h => by cases h⟩, by decide +kernel, by decide +kernel, by decide +kernel,
    by decide +kernel, by decide +kernel, by decide +kernel, c1, .inl ⟨c1, .inl (one _ _ _ (by decide +kernel))⟩, c2,
    .inl ⟨c2, .inl (one _ _ _ (by decide +kernel))⟩, c8, .inl ⟨c8, .inr (by decide +kernel)⟩, ?_, c9, ?_, c10,
    .inl ⟨c10, .inl (one _ _ _ (by decide +kernel))⟩⟩
  · have all : ∀ (n : StationId) (p : Pos), (match adoptingCopies.roles[n][p] with
        | .sound x => decide ((x.defined = true → x.pool ≠ none)
          ∧ (x.defined = false → x.current = none ∧ x.staged = none))
        | .failing _ => true) = true := by decide +kernel
    intro r x h
    have := all r.station r.pos
    change adoptingCopies.roles[r.station][r.pos] = .sound x at h
    rw [h] at this
    simp only [decide_eq_true_eq] at this
    exact this
  · rintro v (⟨h, -⟩ | ⟨-, -, -, h, -⟩)
    · exact n3 v h
    · rw [s3] at h; cases h
  · rintro (⟨-, h | h⟩ | ⟨h, -⟩)
    · exact absurd (h 8 c8) (by decide)
    · exact absurd h (by decide +kernel)
    · exact h 8 c8

theorem witness_FactoryStartUpIsReset :
    State.reset.copies = .factory ∧ State.reset.store.inFlight = none := ⟨rfl, rfl⟩

/-! ### Witnesses: station records -/

/-- A READY station; an IN_PART one on a STANDING plan, and on a ONE_PART plan with its return plan. -/
theorem witness_PartStartBeginsPart :
    let onePart : Plan := { plan with mode := .onePart }
    let back := grinding.setPlans 0 ⟨some onePart, none, some plan⟩
    (TakesRecord (bringing shop (.partStart 9 5)) 0 (.partStart 9 5) 5 []
      ∧ TakesRecord (bringing shop (.partStart 9 0)) 0 (.partStart 9 0) 5 []
      ∧ TakesRecord (bringing grinding (.partStart 9 5)) 0 (.partStart 9 5) 5 []
      ∧ TakesRecord (bringing back (.partStart 9 0)) 0 (.partStart 9 0) 5 [])
    ∧ (∀ s ∈ [shop, grinding, back], (s.station 0).swap.window = none
        ∧ (∀ pos, (s.role ⟨0, pos⟩).record.staged = none) ∧ (s.station 0).plans.staged = none
        ∧ ∀ x ∈ plan.steps, (s.role ⟨0, x.pos⟩).record.current ≠ none)
    ∧ shop.stationState 0 = .ready ∧ grinding.stationState 0 = .inPart ∧ back.stationState 0 = .inPart
    ∧ (shop.station 0).plans.active = some plan ∧ (grinding.station 0).plans.active = some plan
    ∧ (back.station 0).plans.active = some onePart ∧ plan.mode = .standing ∧ plan.revision = 5
    ∧ ({ (back.station 0).plans with active := (back.station 0).plans.returned, returned := none } : PlanSlots).active
        = some plan :=
  ⟨⟨brings _ _ (by decide +kernel), brings _ _ (by decide +kernel), brings _ _ (by decide +kernel),
    brings _ _ (by decide +kernel)⟩, by decide +kernel⟩

/-- Revision 6 staged COMPLETE, in each mode, beside these other slots. -/
def staging (s : State) (mode : PlanMode) (active returned : Option Plan) : State :=
  s.setPlans 0 ⟨active, some ⟨6, mode, .complete, [some planStep]⟩, returned⟩

/-- No tool staged and a COMPLETE plan: at a new station, over an active plan, and over a ONE_PART plan in use. -/
theorem witness_PartStartBeginsOnStagedPlan :
    let new := fun mode => (⟨6, mode, [planStep]⟩ : Plan)
    let onePart : Plan := { plan with mode := .onePart }
    (∀ mode ∈ [PlanMode.standing, .onePart],
      (∀ s ∈ [staging shop mode none none, staging shop mode (some plan) none, staging grinding mode none none,
          staging grinding mode (some onePart) (some plan)],
        (s.station 0).swap.window = none ∧ (∀ pos, (s.role ⟨0, pos⟩).record.staged = none)
        ∧ (s.station 0).plans.staged = some ⟨6, mode, .complete, [some planStep]⟩
        ∧ ∀ x ∈ (new mode).steps, (s.role ⟨0, x.pos⟩).record.current ≠ none)
      ∧ (⟨6, mode, .complete, [some planStep]⟩ : StagedPlan).toPlan = some (new mode)
      ∧ (new mode).revision = 6 ∧ (staging shop mode none none).stationState 0 = .ready
      ∧ (staging grinding mode none none).stationState 0 = .inPart)
    ∧ TakesRecord (bringing (staging shop .standing none none) (.partStart 9 6)) 0 (.partStart 9 6) 5 []
    ∧ TakesRecord (bringing (staging grinding .onePart (some onePart) (some plan)) (.partStart 9 0)) 0
        (.partStart 9 0) 5 [] :=
  ⟨by decide +kernel, brings _ _ (by decide +kernel), brings _ _ (by decide +kernel)⟩

/-- R59: a new station comes to its first active plan; a ONE_PART plan staged over another keeps the standing one. -/
theorem test_part_start_adopts_staged_plan :
    let onePart : Plan := { plan with mode := .onePart }
    let first := after (.partStart 0) (bringing (staging shop .standing none none) (.partStart 9 6))
    let next := after (.partStart 0) (bringing (staging grinding .onePart (some onePart) (some plan)) (.partStart 9 0))
    (first.station 0).plans = ⟨some ⟨6, .standing, [planStep]⟩, none, none⟩ ∧ first.stationState 0 = .inPart
      ∧ first.store.marked[(RecordId.plan 0).place] = true
      ∧ (next.station 0).plans = ⟨some ⟨6, .onePart, [planStep]⟩, none, some plan⟩
      ∧ next.store.marked[(RecordId.plan 0).place] = false := by
  decide +kernel

/-- Tool 3 staged at the spindle and a COMPLETE plan staged, STANDING or ONE_PART. -/
def adopting (mode : PlanMode) : State :=
  let s := withTool shop 2 (wheel .reserved (some ⟨spindle, .staged⟩))
  (s.setRole spindle ⟨{ toolRole 1 with staged := some 2 }, .staged⟩).setPlans 0
    ⟨some plan, some ⟨6, mode, .complete, [some planStep]⟩, none⟩

theorem witness_PartStartAdoptsToolAndPlan :
    let new := fun mode => (⟨6, mode, [planStep]⟩ : Plan)
    let s := fun mode => bringing (adopting mode) (.partStart 9 6)
    (∀ mode ∈ [PlanMode.standing, .onePart], (new mode).revision = 6 ∧ (s mode).stationState 0 = .ready
        ∧ ((s mode).station 0).swap.window = none ∧ ((s mode).role ⟨0, 1⟩).record.staged = some 2
        ∧ ((s mode).role ⟨0, 1⟩).record.current = some 1 ∧ (1 : ToolId) ≠ 2
        ∧ ((s mode).role ⟨0, 1⟩).record.defined = true
        ∧ (∀ q : Pos, q ≠ 1 → ((s mode).role ⟨0, q⟩).record.staged = none)
        ∧ ((s mode).tool 2).lifeSpent = false
        ∧ ((s mode).station 0).plans.staged = some ⟨6, mode, .complete, [some planStep]⟩
        ∧ (⟨6, mode, .complete, [some planStep]⟩ : StagedPlan).toPlan = some (new mode)
        ∧ ∀ x ∈ (new mode).steps, ((s mode).role ⟨0, x.pos⟩).record.current ≠ none)
      ∧ TakesRecord (s .standing) 0 (.partStart 9 6) 5 [] ∧ TakesRecord (s .onePart) 0 (.partStart 9 6) 5 [] :=
  ⟨by decide +kernel, brings _ _ (by decide +kernel), brings _ _ (by decide +kernel)⟩

/-- The staged tool UNDERSIZE, with gather_ms above 0 and 0; the active plan kept, no plan being staged or one FILLING. -/
theorem witness_PartStartAdoptsWornTool :
    let small := withTool (adopting .standing) 2 { wheel .reserved (some ⟨spindle, .staged⟩) with
      flags := { noFlags with undersize := true } }
    let atOnce := small.setControl 0 { (small.station 0).control with
      settings := { (small.station 0).control.settings with gatherMs := 0 } }
    let kept := small.setPlans 0 ⟨some plan, none, none⟩
    let fills := (adopting .standing).setPlans 0 ⟨some plan, some ⟨6, .standing, .filling, [none]⟩, none⟩
    let starts := fun s => bringing s (.partStart 9 0)
    (TakesRecord (starts small) 0 (.partStart 9 0) 5 [] ∧ TakesRecord (starts atOnce) 0 (.partStart 9 0) 5 []
      ∧ TakesRecord (starts kept) 0 (.partStart 9 0) 5 [] ∧ TakesRecord (starts fills) 0 (.partStart 9 0) 5 [])
    ∧ (∀ s ∈ [small, atOnce, kept], (s.tool 2).lifeSpent = true) ∧ (fills.tool 2).lifeSpent = false
    ∧ (∀ s ∈ [small, atOnce, kept, fills], s.stationState 0 = .ready ∧ (s.station 0).swap = ⟨none, none⟩
        ∧ (s.role ⟨0, 1⟩).record.staged = some 2 ∧ (s.role ⟨0, 1⟩).record.current = some 1
        ∧ (s.role ⟨0, 1⟩).record.defined = true ∧ ∀ q : Pos, q ≠ 1 → (s.role ⟨0, q⟩).record.staged = none)
    ∧ 0 < (small.station 0).control.settings.gatherMs ∧ (atOnce.station 0).control.settings.gatherMs = 0
    ∧ (kept.station 0).plans.staged = none ∧ (kept.station 0).plans.active = some plan
    ∧ (fills.station 0).plans.staged = some ⟨6, .standing, .filling, [none]⟩
    ∧ (fills.station 0).plans.active = some plan
    ∧ ∀ x ∈ plan.steps, (kept.role ⟨0, x.pos⟩).record.current ≠ none :=
  ⟨⟨brings _ _ (by decide +kernel), brings _ _ (by decide +kernel), brings _ _ (by decide +kernel),
    brings _ _ (by decide +kernel)⟩, by decide +kernel⟩

/-- R144: the need of an adopted tool that enters WORN opens a window on the part it started. -/
theorem test_worn_adoption_opens_window :
    let s := withTool (adopting .standing) 2 { wheel .reserved (some ⟨spindle, .staged⟩) with
      flags := { noFlags with undersize := true } }
    let t := after (.partStart 0) (bringing s (.partStart 9 6))
    (t.tool 2).state = .worn ∧ (t.role spindle).state = .needy ∧ t.stationState 0 = .inPart
      ∧ (t.station 0).swap.window = some ⟨[1], 2000, 10000⟩ := by
  decide +kernel

/-- A STOPPING station, and a READY and an IN_PART one with an open window, each with a part or none. -/
theorem witness_PartStartRefused :
    let gathers := fun s : State => s.setSwap 0 ⟨some ⟨[1], 9000, 9000⟩, none⟩
    let start := fun s => bringing s (.partStart 9 5)
    let stops := start (standing shop .stopping (some part))
    (TakesRecord stops 0 (.partStart 9 5) 5 [] ∧ TakesRecord (start (gathers shop)) 0 (.partStart 9 5) 5 []
      ∧ TakesRecord (start (gathers grinding)) 0 (.partStart 9 5) 5 [])
    ∧ stops.stationState 0 = .stopping ∧ (start (gathers shop)).stationState 0 = .ready
    ∧ (start (gathers grinding)).stationState 0 = .inPart
    ∧ (∀ s ∈ [start (gathers shop), start (gathers grinding)],
        (s.station 0).swap.window = some ⟨[1], 9000, 9000⟩ ∧ (s.station 0).plans.active = some plan)
    ∧ ((shop.halt 0 .cell none).station 0).control.cause = some .cell
    ∧ (shop.halt 0 .cell none).stationState 0 = .halted :=
  ⟨⟨brings _ _ (by decide +kernel), brings _ _ (by decide +kernel), brings _ _ (by decide +kernel)⟩,
    by decide +kernel⟩

/-- A HELD and a HALTED station; no plan, another revision, a step without a tool. -/
theorem witness_PartStartRefusals :
    let start := fun s => bringing s (.partStart 9 4)
    let bare := shop.setPlans 0 ⟨none, none, none⟩
    let untooled := shop.setPlans 0 ⟨some ⟨4, .standing, [{ planStep with pos := 4 }]⟩, none, none⟩
    (TakesRecord (start (shop.setStationState 0 .held)) 0 (.partStart 9 4) 5 []
      ∧ TakesRecord (start (shop.setStationState 0 .halted)) 0 (.partStart 9 4) 5 []
      ∧ TakesRecord (start bare) 0 (.partStart 9 4) 5 [] ∧ TakesRecord (start shop) 0 (.partStart 9 4) 5 []
      ∧ TakesRecord (start untooled) 0 (.partStart 9 4) 5 [])
    ∧ (start (shop.setStationState 0 .held)).stationState 0 = .held
    ∧ (start (shop.setStationState 0 .halted)).stationState 0 = .halted
    ∧ (∀ s ∈ [start bare, start shop, start untooled], s.stationState 0 = .ready
        ∧ (s.station 0).swap.window = none ∧ ∀ pos, (s.role ⟨0, pos⟩).record.staged = none)
    ∧ ((start bare).station 0).plans.candidate = none
    ∧ ((start shop).station 0).plans.candidate = some (plan, false) ∧ (4 : Nat) ≠ plan.revision
    ∧ ((start untooled).station 0).plans.candidate
        = some (⟨4, .standing, [{ planStep with pos := 4 }]⟩, false)
    ∧ ((start untooled).role ⟨0, 4⟩).record.current = none :=
  ⟨⟨brings _ _ (by decide +kernel), brings _ _ (by decide +kernel), brings _ _ (by decide +kernel),
    brings _ _ (by decide +kernel), brings _ _ (by decide +kernel)⟩, by decide +kernel⟩

/-- The cut of the plan's one step is accepted, whatever its peak and energy. -/
theorem grinding_accepts (peak energy : Nat) :
    CutAccepted (bringing grinding (.cut 1 peak energy)) 0 1 part plan planStep 1 :=
  ⟨rfl, .inl rfl, rfl, Nat.one_pos, rfl, rfl⟩

theorem witness_CutChargesTool :
    TakesRecord (bringing grinding (.cut 1 0 0)) 0 (.cut 1 0 0) 5 []
      ∧ CutAccepted (bringing grinding (.cut 1 0 0)) 0 1 part plan planStep 1
      ∧ TakesRecord (bringing grinding (.cut 1 65535 65535)) 0 (.cut 1 65535 65535) 5 []
      ∧ CutAccepted (bringing grinding (.cut 1 65535 65535)) 0 1 part plan planStep 1 :=
  ⟨brings _ _ (by decide +kernel), grinding_accepts _ _, brings _ _ (by decide +kernel),
    grinding_accepts _ _⟩

/-- Station 1 with part 7 in progress and this wheel, with what its interval and flags say, at the spindle. -/
def turning (st : ToolState) (wd : Nat) (life : WheelLife) (flags : Flags) : State :=
  withTool grinding 1 { wheel st (some ⟨spindle, .current⟩) with
    life := .wheel life, flags := flags, acc := { Accounts.zero with wd := wd } }

/-- The first worked cut charges 156 WU: it brings a FINAL wheel to its dress_limit of 800, a wheel to its overdue
threshold of 1,600, a BROKEN one that trips again among them, and meets a wheel at its warn_dresses of 10. -/
theorem witness_CutFindsWheel :
    let final := turning .active 644 wheelLife { noFlags with final := true }
    let late := turning .active 1444 wheelLife noFlags
    let snapped := turning .broken 1444 wheelLife noFlags
    let low := turning .active 0 { wheelLife with dNow := 350040 } noFlags
    let cut := fun s peak => bringing s (.cut 1 peak 5200)
    let t := fun s peak => after (.cut 0) (cut s peak)
    (∀ s ∈ [final, late, snapped, low, grinding, busy 1 late], ∀ peak ∈ [900, 1501],
        (cut s peak).powered = true ∧ (cut s peak).stationState 0 ≠ .offline
        ∧ CutAccepted (cut s peak) 0 1 part plan planStep 1)
    ∧ min 65535 (644 + (planStep.baseCost * max 128 (min (5200 * 256 / planStep.eExp) 1024) + 255) / 256)
        = wheelLife.dressLimit
    ∧ min 65535 (1444 + (planStep.baseCost * max 128 (min (5200 * 256 / planStep.eExp) 1024) + 255) / 256)
        = min (2 * wheelLife.dressLimit) 65535
    ∧ (final.tool 1).state = .active ∧ (final.tool 1).flags.final = true
    ∧ (final.tool 1).link = some ⟨⟨0, planStep.pos⟩, .current⟩ ∧ (snapped.tool 1).state = .broken
    ∧ (low.tool 1).lifeLeft = 10 ∧ (low.tool 1).flags.lifeWarn = false
    ∧ (low.tool 1).link = some ⟨spindle, .current⟩
    ∧ (∀ s ∈ [final, late, low, grinding, busy 1 late],
        ((t s 900).tool 1).acc.tripCount = ((cut s 900).tool 1).acc.tripCount)
    ∧ (∀ s ∈ [late, snapped], ((t s 1501).tool 1).acc.tripCount ≠ ((cut s 1501).tool 1).acc.tripCount)
    ∧ LinkFree late (stationLink 0) ∧ ¬ LinkFree (busy 1 late) (stationLink 0) := by
  unfold CutAccepted LinkFree
  decide +kernel

/-- R33, R127, R128: the cut that reaches the overdue threshold halts the station for OVERDUE, naming the wheel. -/
theorem test_overdue_cut_halts :
    let t := after (.cut 0) (bringing (turning .active 1444 wheelLife noFlags) (.cut 1 900 5200))
    (t.tool 1).flags.overdue = true ∧ (t.station 0).control.cause = some .overdue
      ∧ (t.station 0).control.haltTool = some 1 ∧ t.notices = [⟨0, .halt⟩] := by
  decide +kernel

/-- Each of the five verdicts, at peaks of 1,501, 199, 1,500 and 200 and ratios of 641, 127, 640 and 128. -/
theorem witness_CutVerdictAndTrip :
    (∀ c ∈ [(1501, 4000), (199, 4000), (1500, 10016), (200, 1999), (1500, 10015), (200, 2000)],
        (bringing grinding (.cut 1 c.1 c.2)).powered = true)
      ∧ 1501 > planStep.peakHi ∧ ¬ 1500 > planStep.peakHi ∧ 199 < planStep.peakLo ∧ ¬ 200 < planStep.peakLo
      ∧ 10016 * 256 / planStep.eExp = 641 ∧ 1999 * 256 / planStep.eExp = 127
      ∧ 10015 * 256 / planStep.eExp = 640 ∧ 2000 * 256 / planStep.eExp = 128
      ∧ (toolRole 1).eHi = 640 ∧ (toolRole 1).eLo = 128 ∧ planStep.kind ≠ .spark
      ∧ CutAccepted (bringing grinding (.cut 1 1500 10016)) 0 1 part plan planStep 1
      ∧ TakesRecord (bringing grinding (.cut 1 1500 10016)) 0 (.cut 1 1500 10016) 5 [] := by
  refine ⟨by decide +kernel, by decide, by decide, by decide, by decide, by decide, by decide, by decide,
    by decide, by decide, by decide, by decide, grinding_accepts _ _,
    brings _ _ (by decide +kernel)⟩

theorem witness_OverloadBreaksToolAndHalts :
    let s := bringing grinding (.cut 1 1501 4000)
    TakesRecord s 0 (.cut 1 1501 4000) 5 [] ∧ CutAccepted s 0 1 part plan planStep 1
      ∧ planStep.peakHi < min 1501 2000 ∧ (s.tool 1).state = .active
      ∧ (s.role ⟨0, planStep.pos⟩).state = .running ∧ (s.station 0).swap.order = none :=
  ⟨brings _ _ (by decide +kernel), grinding_accepts _ _, by decide +kernel⟩

/-- The spindle's wheel BROKEN, with a part in progress. -/
def broken : State := withTool grinding 1 (wheel .broken (some ⟨spindle, .current⟩))

theorem witness_RepeatTripHandsNothingOn :
    let s := bringing broken (.cut 1 1501 4000)
    TakesRecord s 0 (.cut 1 1501 4000) 5 [] ∧ CutAccepted s 0 1 part plan planStep 1
      ∧ planStep.peakHi < min 1501 2000 ∧ (s.tool 1).state = .broken ∧ (s.tool 1).life = .wheel wheelLife
      ∧ min 65535 ((s.tool 1).acc.wd
          + (planStep.baseCost * max 128 (min (4000 * 256 / planStep.eExp) 1024) + 255) / 256)
        < min (2 * wheelLife.dressLimit) 65535
      ∧ wheelLife.warnDresses < (s.tool 1).lifeLeft := by
  refine ⟨brings _ _ (by decide +kernel), ?_, by decide +kernel⟩
  unfold CutAccepted
  decide +kernel

theorem witness_CleanCutFrame :
    let s := bringing grinding (.cut 1 1500 4000)
    TakesRecord s 0 (.cut 1 1500 4000) 5 [] ∧ CutAccepted s 0 1 part plan planStep 1
      ∧ (s.tool 1).life = .wheel wheelLife ∧ (s.tool 1).state = .active ∧ (s.tool 1).flags.final = false
      ∧ (s.tool 1).flags.undersize = false ∧ wheelLife.warnDresses < (s.tool 1).lifeLeft
      ∧ min 65535 ((s.tool 1).acc.wd
          + (planStep.baseCost * max 128 (min (4000 * 256 / planStep.eExp) 1024) + 255) / 256)
        < min (2 * wheelLife.dressLimit) 65535
      ∧ min 1500 2000 ≤ planStep.peakHi ∧ planStep.peakLo ≤ min 1500 2000
      ∧ 4000 * 256 / planStep.eExp ≤ (s.role ⟨0, planStep.pos⟩).record.eHi
      ∧ (s.role ⟨0, planStep.pos⟩).record.eLo ≤ 4000 * 256 / planStep.eExp :=
  ⟨brings _ _ (by decide +kernel), grinding_accepts _ _, by decide +kernel⟩

/-- Reported depths of 0, 1, 5,000, 5,001 and 65,535. -/
theorem witness_DressCutsDiameter :
    let s := fun r => bringing shop (.dress 1 r 500)
    (∀ r ∈ [0, 1, 5000, 5001, 65535], ((s r).role ⟨0, 1⟩).record.defined = true
      ∧ ((s r).role ⟨0, 1⟩).record.current = some 1 ∧ ((s r).role ⟨0, 0⟩).record.current ≠ some 1
      ∧ ((s r).tool 1).life = .wheel wheelLife ∧ 1 ≤ wheelLife.dressLimit)
    ∧ TakesRecord (s 0) 0 (.dress 1 0 500) 5 [] ∧ TakesRecord (s 65535) 0 (.dress 1 65535 500) 5 [] :=
  ⟨by decide +kernel, brings _ _ (by decide +kernel), brings _ _ (by decide +kernel)⟩

/-- A wheel that a dress of its step brings to its warn_dresses of 10, at a station without a dresser; a dresser that
its charge of 30 brings to its warn_wu of 10. -/
theorem witness_DressWarns :
    let lone := (turning .active 0 { wheelLife with dNow := 350044 } noFlags).setRole dressing
      ⟨.undefined, .empty⟩
    let costly := shop.setRole dressing ⟨{ toolRole 0 with dressCost := 30 }, .running⟩
    let spent := withTool costly 0 { dresser .active (some ⟨dressing, .current⟩) with
      acc := { Accounts.zero with wt := 960 } }
    let s := bringing lone (.dress 1 0 500)
    let t := bringing spent (.dress 1 0 500)
    (TakesRecord s 0 (.dress 1 0 500) 5 [] ∧ TakesRecord t 0 (.dress 1 0 500) 5 [])
    ∧ (s.role ⟨0, 1⟩).record.defined = true ∧ (s.role ⟨0, 1⟩).record.current = some 1
    ∧ (s.role ⟨0, 0⟩).record.current = none ∧ (s.tool 1).life = .wheel { wheelLife with dNow := 350044 }
    ∧ (350044 - (20 + 4) / 5 - 350000) / ((20 + 4) / 5) = wheelLife.warnDresses
    ∧ (s.tool 1).flags.lifeWarn = false ∧ (s.tool 1).flags.undersize = false
    ∧ (s.tool 1).link = some ⟨spindle, .current⟩
    ∧ (t.role ⟨0, 0⟩).record.current = some 0 ∧ (t.tool 0).life = .dresser ⟨1000, 10⟩
    ∧ 1000 - min 4294967295 ((t.tool 0).acc.wt + ((t.role ⟨0, 0⟩).record.dressCost * min (20 * 256 / 20) 1024 + 255) / 256)
        = 10
    ∧ (t.tool 0).flags.lifeWarn = false ∧ (t.tool 0).link = some ⟨dressing, .current⟩
    ∧ (t.tool 0).state = .active :=
  ⟨⟨brings _ _ (by decide +kernel), brings _ _ (by decide +kernel)⟩, by decide +kernel⟩

/-- Peaks of 2,000 (no overload at the default dresser_hi), and 65,535 over a dresser_hi of 1,999. -/
theorem witness_DressChargesDresser :
    let low := shop.setRole dressing ⟨{ toolRole 0 with dresserHi := 1999 }, .running⟩
    let s := bringing shop (.dress 1 0 2000)
    let t := bringing low (.dress 1 0 65535)
    (TakesRecord s 0 (.dress 1 0 2000) 5 [] ∧ TakesRecord t 0 (.dress 1 0 65535) 5 [])
    ∧ (∀ x ∈ [s, t], (x.role ⟨0, 1⟩).record.defined = true ∧ (x.role ⟨0, 1⟩).record.current = some 1
        ∧ (x.role ⟨0, 0⟩).record.current = some 0 ∧ (x.tool 1).life = .wheel wheelLife
        ∧ (x.tool 0).life = .dresser ⟨1000, 10⟩ ∧ (x.tool 0).state = .active)
    ∧ (1 : ToolId) ≠ 0 ∧ min 2000 2000 ≤ (s.role ⟨0, 0⟩).record.dresserHi
    ∧ (s.role ⟨0, 0⟩).record.dresserLo ≤ min 2000 2000 ∧ (t.role ⟨0, 0⟩).record.dresserHi < min 65535 2000 :=
  ⟨⟨brings _ _ (by decide +kernel), brings _ _ (by decide +kernel)⟩, by decide +kernel⟩

/-- A DRESS of an undefined role; a PART_END with no part and with another tag; a CUT with no part, of step 0
and past the plan. -/
theorem witness_RecordsTurnedAway :
    TakesRecord (bringing shop (.dress 4 0 0)) 0 (.dress 4 0 0) 5 []
    ∧ TakesRecord (bringing shop (.partEnd 7 .good)) 0 (.partEnd 7 .good) 5 []
    ∧ TakesRecord (bringing grinding (.partEnd 8 .good)) 0 (.partEnd 8 .good) 5 []
    ∧ TakesRecord (bringing shop (.cut 1 0 0)) 0 (.cut 1 0 0) 5 []
    ∧ TakesRecord (bringing grinding (.cut 0 0 0)) 0 (.cut 0 0 0) 5 []
    ∧ TakesRecord (bringing grinding (.cut 2 0 0)) 0 (.cut 2 0 0) 5 []
    ∧ ((bringing shop (.dress 4 0 0)).role ⟨0, 4⟩).record.defined = false
    ∧ ((bringing shop (.partEnd 7 .good)).station 0).intake.part = none
    ∧ ((bringing grinding (.partEnd 8 .good)).station 0).intake.part = some part ∧ part.tag ≠ 8
    ∧ ((bringing shop (.cut 1 0 0)).station 0).intake.part = none
    ∧ 0 ≤ ((bringing grinding (.cut 0 0 0)).station 0).intake.pointer
    ∧ ((bringing grinding (.cut 2 0 0)).station 0).plans.active = some plan ∧ plan.steps.length < 2 :=
  ⟨brings _ _ (by decide +kernel), brings _ _ (by decide +kernel), brings _ _ (by decide +kernel),
    brings _ _ (by decide +kernel), brings _ _ (by decide +kernel), brings _ _ (by decide +kernel),
    by decide +kernel⟩

/-- SCRAP where the strikes do not complete, with no window open and with one. -/
theorem witness_PartEndClosesScrapPart :
    let strict := fun s : State => s.setRole spindle ⟨{ toolRole 1 with strikeLimit := 2 }, .running⟩
    let quiet := bringing (strict grinding) (.partEnd 7 .scrap)
    let open' := bringing ((strict (withTool grinding 1 (wheel .worn (some ⟨spindle, .current⟩)))).setSwap 0
      ⟨some ⟨[1], 9000, 9000⟩, none⟩) (.partEnd 7 .scrap)
    (TakesRecord quiet 0 (.partEnd part.tag .scrap) 5 [] ∧ TakesRecord open' 0 (.partEnd part.tag .scrap) 5 [])
    ∧ (∀ s ∈ [quiet, open'], (s.station 0).intake.part = some part
        ∧ ∀ x ∈ part.tools, x.finish = true →
          strikeCount ((.softGauge :: s.history x.tool).take 4) < (s.role ⟨0, x.pos⟩).record.strikeLimit)
    ∧ (quiet.station 0).swap.window = none ∧ (open'.station 0).swap.window = some ⟨[1], 9000, 9000⟩
    ∧ (open'.role ⟨0, 1⟩).record.current = some 1 ∧ (open'.tool 1).state = .worn :=
  ⟨⟨brings _ _ (by decide +kernel), brings _ _ (by decide +kernel)⟩, by decide +kernel⟩

/-- GOOD in IN_PART, REWORK in STOPPING, HALTED, a ONE_PART plan, and a sending station link. -/
theorem witness_PartEndClosesPart :
    let ends := fun s g => bringing s (.partEnd 7 g)
    let onePart := grinding.setPlans 0 ⟨some { plan with mode := .onePart }, none, some plan⟩
    (TakesRecord (ends grinding .good) 0 (.partEnd part.tag .good) 5 []
      ∧ TakesRecord (ends (standing shop .stopping (some part)) .rework) 0 (.partEnd part.tag .rework) 5 []
      ∧ TakesRecord (ends (standing shop .halted (some part)) .good) 0 (.partEnd part.tag .good) 5 []
      ∧ TakesRecord (ends onePart .good) 0 (.partEnd part.tag .good) 5 []
      ∧ TakesRecord (ends (busy 1 grinding) .good) 0 (.partEnd part.tag .good) 5 [])
    ∧ (part.tools.map fun x => x.tool).Nodup ∧ Gauge.good ≠ .scrap ∧ Gauge.rework ≠ .scrap
    ∧ (∀ s ∈ [ends grinding .good, ends (standing shop .stopping (some part)) .rework, ends onePart .good,
        ends (standing shop .halted (some part)) .good, ends (busy 1 grinding) .good],
        (s.station 0).intake.part = some part ∧ (s.station 0).swap.window = none)
    ∧ ((ends onePart .good).station 0).plans.active = some { plan with mode := .onePart }
    ∧ ((ends grinding .good).station 0).plans.active = some plan ∧ plan.mode = .standing
    ∧ (ends grinding .good).stationState 0 = .inPart
    ∧ (ends (standing shop .stopping (some part)) .rework).stationState 0 = .stopping
    ∧ (ends (standing shop .halted (some part)) .good).stationState 0 = .halted
    ∧ ((ends (busy 1 grinding) .good).link (stationLink 0)).sending = some ⟨.answer .taken, 10000⟩ :=
  ⟨⟨brings _ _ (by decide +kernel), brings _ _ (by decide +kernel), brings _ _ (by decide +kernel),
    brings _ _ (by decide +kernel), brings _ _ (by decide +kernel)⟩, by decide +kernel⟩

/-- An open window with a need, at an IN_PART, a STOPPING and a HALTED station; a wheel that is DRESS_DUE. -/
theorem witness_PartEndClosesWindow :
    let due := withTool needy 1
      { wheel .worn (some ⟨spindle, .current⟩) with flags := { noFlags with dressDue := true } }
    let ends := fun st => bringing ((standing due st (some part)).setSwap 0 ⟨some ⟨[1], 9000, 9000⟩, none⟩)
      (.partEnd 7 .good)
    (TakesRecord (ends .inPart) 0 (.partEnd part.tag .good) 5 []
      ∧ TakesRecord (ends .stopping) 0 (.partEnd part.tag .good) 5 []
      ∧ TakesRecord (ends .halted) 0 (.partEnd part.tag .good) 5 [])
    ∧ (∀ st ∈ [StationState.inPart, .stopping, .halted], (ends st).stationState 0 = st
        ∧ ((ends st).station 0).intake.part = some part
        ∧ ((ends st).station 0).swap.window = some ⟨[1], 9000, 9000⟩
        ∧ ((ends st).role ⟨0, 1⟩).record.current = some 1 ∧ ((ends st).tool 1).state = .worn
        ∧ ((ends st).tool 1).flags.dressDue = true ∧ ((ends st).station 0).control.stateSlot = none) :=
  ⟨⟨brings _ _ (by decide +kernel), brings _ _ (by decide +kernel), brings _ _ (by decide +kernel)⟩,
    by decide +kernel⟩

theorem witness_ScrapGivesSoftGauge :
    TakesRecord (bringing grinding (.partEnd 7 .scrap)) 0 (.partEnd part.tag .scrap) 5 []
      ∧ ((bringing grinding (.partEnd 7 .scrap)).station 0).intake.part = some part
      ∧ (part.tools.map fun x => x.tool).Nodup ∧ (∀ x ∈ part.tools, x.pos ≠ 0)
      ∧ (∃ x ∈ part.tools, x.finish = true) ∧ ∀ x ∈ part.tools, x.tool = 2 → x.finish = false :=
  ⟨brings _ _ (by decide +kernel), by decide +kernel⟩

/-- The spindle's role with a strike limit. -/
def limited (k : Nat) (st : RoleState) (s : State) : State :=
  s.setRole spindle ⟨{ toolRole 1 with strikeLimit := k }, st⟩

/-- Strikes that complete, on an ACTIVE and on a WORN wheel, the role RUNNING and NEEDY, with a wheel DRESS_DUE, the
link free and sending; strikes that do not, IN_PART with a window and none, STOPPING and HALTED, with a STANDING and a
ONE_PART plan. -/
theorem witness_ScrapTripsOrNot :
    let due := limited 1 .running (turning .active 0 wheelLife { noFlags with dressDue := true })
    let worn := limited 1 .needy (turning .worn 0 wheelLife noFlags)
    let quiet := limited 2 .running grinding
    let window := quiet.setSwap 0 ⟨some ⟨[1], 9000, 9000⟩, none⟩
    let onePart := quiet.setPlans 0 ⟨some { plan with mode := .onePart }, none, some plan⟩
    let stops := limited 2 .running (standing shop .stopping (some part))
    let halts := limited 2 .running (standing shop .halted (some part))
    let scraps := fun s => bringing s (.partEnd 7 .scrap)
    let y : PartTool := ⟨1, 1, true⟩
    (∀ s ∈ [due, worn, busy 1 due, quiet, window, onePart, stops, halts], (scraps s).powered = true
        ∧ (scraps s).stationState 0 ≠ .offline ∧ ((scraps s).station 0).intake.part = some part)
    ∧ part.tools = [y] ∧ y.pos ≠ 0
    ∧ (∀ s ∈ [due, worn, busy 1 due], ((scraps s).role ⟨0, y.pos⟩).record.strikeLimit
        ≤ strikeCount ((.softGauge :: (scraps s).history y.tool).take 4))
    ∧ (∀ s ∈ [quiet, window, onePart, stops, halts],
        strikeCount ((.softGauge :: (scraps s).history y.tool).take 4)
          < ((scraps s).role ⟨0, y.pos⟩).record.strikeLimit)
    ∧ (due.tool 1).state = .active ∧ (worn.tool 1).state = .worn
    ∧ (due.role ⟨0, 1⟩).record.current = some 1 ∧ (due.tool 1).flags.dressDue = true
    ∧ (worn.tool 1).flags.dressDue = false
    ∧ (due.role ⟨0, 1⟩).state = .running ∧ (worn.role ⟨0, 1⟩).state = .needy
    ∧ LinkFree due (stationLink 0) ∧ ¬ LinkFree (busy 1 due) (stationLink 0)
    ∧ (quiet.station 0).control.state = .inPart ∧ (quiet.station 0).swap.window = none
    ∧ (window.station 0).swap.window = some ⟨[1], 9000, 9000⟩
    ∧ (stops.station 0).control.state = .stopping ∧ (halts.station 0).control.state = .halted
    ∧ (quiet.station 0).plans.active = some plan ∧ plan.mode = .standing
    ∧ (onePart.station 0).plans.active = some { plan with mode := .onePart } := by
  unfold LinkFree
  decide +kernel

/-- R79, R92: a strike trip at the end of a part halts the station, which keeps no part. -/
theorem test_scrap_trips_and_closes :
    let t := after (.partEnd 0) (bringing (limited 1 .running grinding) (.partEnd 7 .scrap))
    (t.tool 1).state = .broken ∧ (t.tool 1).acc.partsTotal = 1 ∧ t.stationState 0 = .halted
      ∧ (t.station 0).intake.part = none ∧ (t.station 0).control.haltTool = some 1 := by
  decide +kernel

/-! ### Witnesses: windows, orders and pools -/

/-- A qualifying tool is chosen; with it PINNED none qualifies; a role with a WORN and one with a BROKEN tool. -/
theorem witness_ChoiceTakesLeastLife :
    shop.bestSpare spindle = some 2 ∧ shop.Qualifying spindle 2
      ∧ (withTool shop 2 ((wheel .stored none).withPinned true)).bestSpare spindle = none
      ∧ (shop.role spindle).record.pool = some 0
      ∧ (needy.role spindle).record.current = some 1 ∧ (needy.tool 1).state = .worn
      ∧ (broken.role spindle).record.current = some 1 ∧ (broken.tool 1).state = .broken := by
  unfold State.Qualifying
  decide +kernel

/-- A role whose tool is ACTIVE, with a spare in the store and with none. -/
theorem witness_ChoiceOfRideAlong :
    let bare := withTool shop 2 ((wheel .stored none).withPinned true)
    (∀ s ∈ [shop, bare], (s.role spindle).record.current = some 1 ∧ (s.tool 1).state = .active)
      ∧ shop.bestSpare spindle = some 2 ∧ bare.bestSpare spindle = none := by
  decide +kernel

/-- A window that lists the spindle, at a station whose other wheel role is NEEDY and whose dressing role rides along:
its dresser has 1000 WU left, which is the setting, and a dresser is in the store; and the same without that one. -/
def gathering : State :=
  let other : RoleId := ⟨0, 2⟩
  let s := withTool (withTool (waitingWindow 5000 9000) 3 (wheel .broken (some ⟨other, .current⟩))) 4
    (dresser .stored none)
  (s.setRole other ⟨toolRole 3, .needy⟩).setControl 0
    { (s.station 0).control with settings := { (s.station 0).control.settings with rideAlongWu := 1000 } }

theorem witness_WindowGathersRoles :
    let bare := withTool gathering 4 .vacant
    (∀ s ∈ [gathering, bare], s.powered = true ∧ (s.station 0).swap.window = some ⟨[1], 5000, 9000⟩
        ∧ reached s.timeBase 5000 = true ∧ (s.role ⟨0, 1⟩).record.current = some 1 ∧ (s.tool 1).state = .worn
        ∧ orderRoles s 0 [1] = [1, 2, 0] ∧ (s.role ⟨0, 2⟩).record.current = some 3 ∧ (s.tool 3).state = .broken
        ∧ (s.role ⟨0, 0⟩).record.current = some 0 ∧ (s.tool 0).state = .active)
      ∧ gathering.Qualifying dressing 4 ∧ ∀ u, ¬ bare.Qualifying dressing u := by
  unfold State.Qualifying
  decide +kernel

/-- R149, R150: the listed need takes the spare, the other NEEDY role waits, and the dressing role rides along. -/
theorem test_window_gathers_ride_along :
    let t := after (.windowTimerExpiry 0) gathering
    (t.station 0).swap.order.map (fun o => o.entries) = some
      [⟨1, 1, some 2, .worn, .reserved⟩, ⟨2, 3, none, .broken, .waiting⟩, ⟨0, 0, some 4, .rideAlong, .reserved⟩] := by
  decide +kernel

/-- A close deadline reached now and a cap deadline reached now; both one millisecond ahead. -/
theorem witness_WindowClosesIntoOrder :
    let close := waitingWindow 5000 9000
    let cap := waitingWindow 9000 5000
    let ahead := waitingWindow 5001 5001
    close.powered = true ∧ (close.station 0).swap.window = some ⟨[1], 5000, 9000⟩
      ∧ reached close.timeBase 5000 = true ∧ (cap.station 0).swap.window = some ⟨[1], 9000, 5000⟩
      ∧ reached cap.timeBase 5000 = true
      ∧ (∀ s ∈ [close, cap], (s.role ⟨0, 1⟩).record.current = some 1 ∧ (s.tool 1).state = .worn)
      ∧ (ahead.station 0).swap.window = some ⟨[1], 5001, 5001⟩ ∧ reached ahead.timeBase 5001 = false
      ∧ (shop.station 0).swap.window = none := by
  decide +kernel

/-- A FINAL wheel at the spindle with 800 WU in its interval. -/
def worked : State :=
  let x := wheel .active (some ⟨spindle, .current⟩)
  withTool shop 1 { x with flags := { noFlags with final := true }, acc := { Accounts.zero with wd := 800 } }

/-- The wheel brought to a dress_limit of 800: at an OFFLINE station, with no window and gather_ms above 0 and 0, with
its role in the window and not, with an order that has no entry for it, ORDERED and DEFERRED, with a spare and none,
and with an entry for its ride-along. -/
theorem witness_WindowTakesNeed :
    let p : Payload := [0x13, 2] ++ le 2 800 ++ le 2 10 ++ le 4 0
    let other : Entry := ⟨0, 0, none, .worn, .waiting⟩
    let rides : Entry := ⟨1, 1, some 2, .rideAlong, .reserved⟩
    let at_ := fun (w : Option Window) (o : Option Order) => worked.setSwap 0 ⟨w, o⟩
    let listed := at_ (some ⟨[1], 9000, 9000⟩) none
    let joins := at_ (some ⟨[0], 9000, 9000⟩) none
    let ordered := at_ none (some ⟨.ordered, [other], 9, 0⟩)
    let deferred := withTool (at_ none (some ⟨.deferred, [other], 9, 0⟩)) 2 .vacant
    let riding := (at_ none (some ⟨.ordered, [rides], 9, 0⟩)).setRoleState spindle .reserved
    let off := worked.setStationState 0 .offline
    let hasty := worked.setControl 0 { (worked.station 0).control with
      settings := { Settings.default with gatherMs := 0 } }
    (TakesRequest (asking worked p) p [] ∧ TakesRequest (asking listed p) p [] ∧ TakesRequest (asking joins p) p []
      ∧ TakesRequest (asking ordered p) p [] ∧ TakesRequest (asking deferred p) p []
      ∧ TakesRequest (asking riding p) p [] ∧ TakesRequest (asking off p) p [] ∧ TakesRequest (asking hasty p) p [])
    ∧ (p.headD 0 = 0x13 ∧ p.length = 10 ∧ field p 1 1 = (1 : ToolId).val + 1 ∧ field p 2 2 = 800
        ∧ field p 4 2 ≤ 10000)
    ∧ (∀ s ∈ [worked, listed, joins, ordered, deferred, riding, off, hasty], (s.tool 1).life = .wheel wheelLife
        ∧ (s.tool 1).state = .active ∧ (s.tool 1).link = some ⟨spindle, .current⟩
        ∧ (s.tool 1).flags.final = true ∧ 800 ≤ (s.tool 1).acc.wd ∧ (s.role spindle).record.current = some 1)
    ∧ (∀ s ∈ [worked, listed, joins, ordered, deferred, off, hasty], (s.role spindle).state = .running)
    ∧ (∀ s ∈ [worked, listed, joins, ordered, deferred, riding, hasty], s.stationState 0 ≠ .offline)
    ∧ off.stationState 0 = .offline ∧ (riding.role spindle).state = .reserved
    ∧ (∀ s ∈ [worked, hasty], (s.station 0).swap = { window := none, order := none })
    ∧ 0 < (worked.station 0).control.settings.gatherMs ∧ (hasty.station 0).control.settings.gatherMs = 0
    ∧ (listed.station 0).swap = { window := some ⟨[1], 9000, 9000⟩, order := none } ∧ spindle.pos ∈ ([1] : List Pos)
    ∧ (joins.station 0).swap = { window := some ⟨[0], 9000, 9000⟩, order := none } ∧ spindle.pos ∉ ([0] : List Pos)
    ∧ (ordered.station 0).swap.order = some ⟨.ordered, [other], 9, 0⟩ ∧ ordered.bestSpare spindle = some 2
    ∧ (deferred.station 0).swap.order = some ⟨.deferred, [other], 9, 0⟩ ∧ deferred.bestSpare spindle = none
    ∧ (deferred.role spindle).record.pool = some 0 ∧ other.pos ≠ spindle.pos
    ∧ (riding.station 0).swap.order = some ⟨.ordered, [rides], 9, 0⟩
    ∧ ([rides].find? fun x => x.pos == spindle.pos) = some rides ∧ rides.state ≠ .done := by
  refine ⟨⟨?_, ?_, ?_, ?_, ?_, ?_, ?_, ?_⟩, by decide +kernel⟩ <;> exact asks _ _ (by decide +kernel)

/-- An order about to lapse. -/
def lapsing (e : Entry) : State :=
  let s := held e .ordered
  s.setSwap 0 ⟨none, some ⟨.ordered, [e], 0, 0⟩⟩

/-- A RESERVED entry with no role waiting anywhere, and a WAITING one. -/
theorem witness_LapseWithdrawsOrder :
    (∀ e ∈ [entry .reserved (some 2), entry .waiting none],
      (lapsing e).powered = true ∧ ((lapsing e).station 0).swap.order = some ⟨.ordered, [e], 0, 0⟩
        ∧ (lapsing e).stationState 0 ≠ .offline ∧ ((lapsing e).role ⟨0, e.pos⟩).record.pool = some 0
        ∧ ((lapsing e).role ⟨0, e.pos⟩).record.defined = true
        ∧ ((lapsing e).role ⟨0, e.pos⟩).record.current = some 1 ∧ ((lapsing e).tool 1).state = .worn
        ∧ ∀ n : StationId, ∀ p : Pos, ((lapsing e).role ⟨n, p⟩).record.current ≠ some 2)
      ∧ (entry .reserved (some 2)).incoming = some 2 ∧ ∀ p, (lapsing (entry .reserved (some 2))).pool p = [] := by
  decide +kernel

/-! ### Witnesses: requests -/

/-- A kind that is no request's; a Tool Remove of a RESERVED tool, turned away with IN_USE. -/
theorem witness_TurnedAwayRequestsChangeNothing :
    TakesRequest (asking shop [0x62]) [0x62] [] ∧ isRequestKind 0x62 = false
      ∧ TakesRequest (asking shop [0x12, 2]) [0x12, 2] [] ∧ requestCommand 0x12 = .toolRemove
      ∧ isRequestKind 0x12 = true ∧ (∃ t, exec .toolRemove (asking shop [0x12, 2]) = .next t)
      ∧ (after .toolRemove (asking shop [0x12, 2])).cell.reply = some [[0x80, 0x12, 0x06]] :=
  ⟨asks _ _ (by decide +kernel), by decide, asks _ _ (by decide +kernel), by decide, by decide, ⟨_, rfl⟩,
    by decide +kernel⟩

/-- R178: Role Read and Order Read send the presence of what only a current tool and an order have. -/
theorem test_reads_send_presence :
    let bare := shop.setRole spindle ⟨{ toolRole 1 with current := none }, .empty⟩
    (roleReadData shop spindle).drop 21 = [2, 2, 1] ++ le 4 7500 ++ [0, 0, 0]
      ∧ (roleReadData bare spindle).drop 21 = [1, 0, 0] ++ le 4 0 ++ [0, 0, 0]
      ∧ orderReadData shop 0 = List.replicate 22 0
      ∧ (orderReadData (held (entry .waiting none) .ordered) 0).take 14 = [1, 1] ++ le 6 0 ++ [1] ++ le 4 900000 ++ [1] := by
  decide +kernel

/-- The lowest and the highest number of each read. -/
theorem witness_ReadsAreServed :
    TakesRequest (asking shop [0x16, 1]) [0x16, BitVec.ofNat 8 ((0 : ToolId).val + 1)] []
      ∧ TakesRequest (asking shop [0x16, 64]) [0x16, BitVec.ofNat 8 ((63 : ToolId).val + 1)] []
      ∧ TakesRequest (asking shop [0x23, 1, 1])
          [0x23, BitVec.ofNat 8 ((0 : StationId).val + 1), BitVec.ofNat 8 ((0 : Fin 3).val + 1)] []
      ∧ TakesRequest (asking shop [0x23, 8, 3])
          [0x23, BitVec.ofNat 8 ((7 : StationId).val + 1), BitVec.ofNat 8 ((2 : Fin 3).val + 1)] []
      ∧ TakesRequest (asking shop [0x34, 8, 4])
          [0x34, BitVec.ofNat 8 ((7 : StationId).val + 1), BitVec.ofNat 8 (4 : Pos).val] []
      ∧ TakesRequest (asking shop [0x35, 8]) [0x35, BitVec.ofNat 8 ((7 : PoolId).val + 1)] []
      ∧ TakesRequest (asking shop [0x45, 1]) [0x45, BitVec.ofNat 8 ((0 : StationId).val + 1)] []
      ∧ TakesRequest (asking shop [0x54, 8]) [0x54, BitVec.ofNat 8 ((7 : StationId).val + 1)] []
      ∧ TakesRequest (asking shop [0x61]) [0x61] [] ∧ TakesRequest (asking shop [0x17]) [0x17] [] := by
  refine ⟨?_, ?_, ?_, ?_, ?_, ?_, ?_, ?_, ?_, ?_⟩ <;> exact asks _ _ (by decide +kernel)

theorem witness_ReportLayouts :
    let s := broken.halt 0 .breakage (some 1)
    let x : TripRecord := ⟨.overload, spindle, some 1, some 1, some 7, some 1501, some 256, 5⟩
    let t := withTool s 1 ((s.tool 1).tripped x)
    TakesRequest (asking shop [0x61]) [0x61] [] ∧ shop.notices.length ≤ 24
      ∧ (t.station 0).control.cause = some .breakage ∧ (t.station 0).control.haltTool = some 1
      ∧ (t.tool 1).trip = some x :=
  ⟨asks _ _ (by decide +kernel), by decide +kernel⟩

/-- A Tool Enter payload: the tool, the kind, the pool, a label of the given length, the wheel fields and the
dresser fields. -/
def enters (tool kind label : Nat) (wheelFields dresserFields : List Byte) : Payload :=
  0x10 :: (le 1 tool ++ le 1 kind ++ [1] ++ le 1 label ++ List.replicate 16 0x41 ++ wheelFields ++ dresserFields)

/-- Wheels with the least and the greatest fields, and dressers with a life budget of 1 and 1,000,000,000. -/
theorem witness_ToolEnterWritesRecord :
    let least := enters 1 1 1 (le 4 50000 ++ le 4 40000 ++ le 2 1 ++ le 2 1 ++ le 2 0) (List.replicate 8 0)
    let most := enters 64 1 16 (le 4 1200000 ++ le 4 1199999 ++ le 2 5000 ++ le 2 60000 ++ le 2 10000)
      (List.replicate 8 0)
    let short := enters 1 2 1 (List.replicate 14 0) (le 4 1 ++ le 4 1)
    let long := enters 64 2 16 (List.replicate 14 0) (le 4 1000000000 ++ le 4 0)
    (TakesRequest (asking State.reset least) least [] ∧ TakesRequest (asking State.reset most) most []
      ∧ TakesRequest (asking State.reset short) short [] ∧ TakesRequest (asking State.reset long) long []
      ∧ TakesRequest (asking shop least) least [])
    ∧ (∀ p ∈ [least, most, short, long], p.headD 0 = 0x10 ∧ p.length = 43 ∧ field p 3 1 = (0 : PoolId).val + 1
        ∧ 1 ≤ field p 4 1 ∧ field p 4 1 ≤ 16
        ∧ ∀ b ∈ (p.drop 5).take (field p 4 1), 0x20 ≤ b.toNat ∧ b.toNat ≤ 0x7E)
    ∧ (∀ p ∈ [least, most], field p 2 1 = 1 ∧ 50000 ≤ field p 21 4 ∧ field p 21 4 ≤ 1200000
        ∧ 40000 ≤ field p 25 4 ∧ field p 25 4 < field p 21 4 ∧ 1 ≤ field p 29 2 ∧ field p 29 2 ≤ 5000
        ∧ 1 ≤ field p 31 2 ∧ field p 31 2 ≤ 60000 ∧ field p 33 2 ≤ 10000)
    ∧ (∀ p ∈ [short, long], field p 2 1 = 2 ∧ 1 ≤ field p 35 4 ∧ field p 35 4 ≤ 1000000000
        ∧ field p 39 4 ≤ field p 35 4)
    ∧ field least 1 1 = (0 : ToolId).val + 1 ∧ field most 1 1 = (63 : ToolId).val + 1
    ∧ (State.reset.tool 0).state = .vacant ∧ (State.reset.tool 63).state = .vacant ∧ State.reset.pool 0 = []
    ∧ (shop.tool 0).state ≠ .vacant :=
  ⟨⟨asks _ _ (by decide +kernel), asks _ _ (by decide +kernel), asks _ _ (by decide +kernel),
    asks _ _ (by decide +kernel), asks _ _ (by decide +kernel)⟩, by decide +kernel⟩

/-- The dressing role and the spindle waiting in pool 1: a wheel that enters the store goes to the second. -/
def lacking : State := (held (entry .waiting none) .ordered).setPool 0 [dressing, spindle]

/-- A wheel entered in a pool where the spindle waits; a PINNED one; a dresser whose role waits in no pool. -/
theorem witness_ToolEnterServesRole :
    let p := enters 64 1 1 (le 4 50000 ++ le 4 40000 ++ le 2 1 ++ le 2 1 ++ le 2 0) (List.replicate 8 0)
    let d := enters 64 2 1 (List.replicate 14 0) (le 4 1 ++ le 4 1)
    let stored : ToolRecord := { wheel .stored none with
      life := .wheel ⟨50000, 40000, 50000, 1, 1, 0⟩, label := (p.drop 5).take (field p 4 1) }
    let roll := { stored with life := .dresser ⟨1, 1⟩, flags := { noFlags with lifeWarn := true } }
    let few := lacking.setPool 0 [spindle]
    (TakesRequest (asking lacking p) p [] ∧ TakesRequest (asking few d) d [])
    ∧ p.headD 0 = 0x10 ∧ p.length = 43 ∧ field p 1 1 = (63 : ToolId).val + 1 ∧ field p 3 1 = (0 : PoolId).val + 1
    ∧ (lacking.tool 63).state = .vacant ∧ GoesTo lacking stored 0 [dressing] spindle []
    ∧ NotServed lacking { stored with flags := { noFlags with pinned := true } } ∧ NotServed few roll := by
  refine ⟨⟨asks _ _ (by decide +kernel), asks _ _ (by decide +kernel)⟩, ?_⟩
  unfold GoesTo NotServed FitsRole
  refine ⟨by decide +kernel, by decide +kernel, by decide +kernel, by decide +kernel, by decide +kernel,
    by decide +kernel, .inl rfl, .inr fun q h => ?_⟩
  cases h
  decide +kernel

/-- R14, R119: Tool Enter serves the spindle that waits. -/
theorem test_tool_enter_serves :
    let p := enters 64 1 1 (le 4 50000 ++ le 4 40000 ++ le 2 1 ++ le 2 1 ++ le 2 0) (List.replicate 8 0)
    let t := after .toolEnter (asking lacking p)
    (t.tool 63).state = .reserved ∧ t.pool 0 = [dressing] ∧ (t.role spindle).state = .reserved
      ∧ t.notices = [⟨0, .swapOrder⟩] := by
  decide +kernel

/-- A RETIRED wheel in the shop's third place. -/
def retired : State := withTool shop 2 (wheel .retired none)

/-- A tool that is not RETIRED, one with BREAK_MARK, a dresser, a D_new below its range; and a wheel that the second
role waiting in its pool takes. -/
theorem witness_ReconditionTurnedAway :
    let p : Payload := [0x11, 3] ++ le 4 50000 ++ le 4 40000
    let low : Payload := [0x11, 3] ++ le 4 49999 ++ le 4 40000
    let marked := withTool shop 2 { wheel .retired none with flags := { noFlags with breakMark := true } }
    let disc := withTool shop 2 (dresser .retired none)
    let waits := withTool ((held (entry .waiting none) .ordered).setPool 0 [dressing, spindle]) 2 (wheel .retired none)
    (TakesRequest (asking shop p) p [] ∧ TakesRequest (asking marked p) p [] ∧ TakesRequest (asking disc p) p []
      ∧ TakesRequest (asking retired low) low [] ∧ TakesRequest (asking waits p) p [])
    ∧ (∀ x ∈ [p, low], x.headD 0 = 0x11 ∧ x.length = 10 ∧ field x 1 1 = (2 : ToolId).val + 1)
    ∧ (shop.tool 2).state ≠ .retired ∧ (marked.tool 2).flags.breakMark = true
    ∧ (∀ s ∈ [disc, retired, waits], (s.tool 2).state = .retired ∧ (s.tool 2).flags.breakMark = false)
    ∧ (disc.tool 2).life = .dresser ⟨1000, 10⟩ ∧ ¬ 50000 ≤ field low 2 4
    ∧ (waits.tool 2).life = .wheel wheelLife ∧ (waits.tool 2).link = none ∧ (waits.tool 2).flags.pinned = false
    ∧ (waits.tool 2).pool = some 0 ∧ waits.pool 0 = [dressing] ++ spindle :: [] ∧ dressing.pos = 0
    ∧ (waits.role spindle).record.pool = some 0 ∧ spindle.pos ≠ 0
    ∧ (waits.role spindle).record.takeoverMin ≤ (field p 2 4 - field p 6 4) / ((wheelLife.dressStep + 4) / 5)
    ∧ spindle ∉ ([] : List RoleId) :=
  ⟨⟨asks _ _ (by decide +kernel), asks _ _ (by decide +kernel), asks _ _ (by decide +kernel),
    asks _ _ (by decide +kernel), asks _ _ (by decide +kernel)⟩, by decide +kernel⟩

/-- New diameters at both ends of their ranges; STORED, RETIRED, ACTIVE and VACANT records. -/
theorem witness_ReconditionAndRemove :
    let least : Payload := [0x11, 3] ++ le 4 50000 ++ le 4 40000
    let most : Payload := [0x11, 3] ++ le 4 1200000 ++ le 4 1199999
    (TakesRequest (asking retired least) least [] ∧ TakesRequest (asking retired most) most []
      ∧ TakesRequest (asking shop [0x12, 3]) [0x12, BitVec.ofNat 8 ((2 : ToolId).val + 1)] []
      ∧ TakesRequest (asking shop [0x12, 64]) [0x12, BitVec.ofNat 8 ((63 : ToolId).val + 1)] [])
    ∧ (∀ p ∈ [least, most], p.headD 0 = 0x11 ∧ p.length = 10 ∧ field p 1 1 = (2 : ToolId).val + 1
        ∧ 50000 ≤ field p 2 4 ∧ field p 2 4 ≤ 1200000 ∧ 40000 ≤ field p 6 4 ∧ field p 6 4 < field p 2 4)
    ∧ (retired.tool 2).state = .retired ∧ (retired.tool 2).flags.breakMark = false
    ∧ (retired.tool 2).life = .wheel wheelLife ∧ (retired.tool 2).link = none ∧ 1 ≤ wheelLife.dressLimit
    ∧ (∀ p, retired.pool p = []) ∧ (shop.tool 2).state = .stored ∧ (shop.tool 1).state = .active
    ∧ (shop.tool 63).state = .vacant :=
  ⟨⟨asks _ _ (by decide +kernel), asks _ _ (by decide +kernel), asks _ _ (by decide +kernel),
    asks _ _ (by decide +kernel)⟩, by decide +kernel⟩

/-- A STORED wheel at the ends of the ranges; a FINAL wheel in service brought to its limit; a PINNED and an
unpinned tool. -/
theorem witness_AdjustAndPin :
    let least : Payload := [0x13, 3] ++ le 2 1 ++ le 2 0 ++ le 4 0
    let most : Payload := [0x13, 3] ++ le 2 60000 ++ le 2 10000 ++ le 4 0
    let worn : Payload := [0x13, 2] ++ le 2 800 ++ le 2 10 ++ le 4 0
    let pinned := withTool shop 1 ((shop.tool 1).withPinned true)
    (TakesRequest (asking shop least) least [] ∧ TakesRequest (asking shop most) most []
      ∧ TakesRequest (asking worked worn) worn []
      ∧ TakesRequest (asking shop [0x14, 64]) [0x14, BitVec.ofNat 8 ((63 : ToolId).val + 1)] []
      ∧ TakesRequest (asking shop [0x15, 3]) [0x15, BitVec.ofNat 8 ((2 : ToolId).val + 1)] []
      ∧ TakesRequest (asking pinned [0x15, 2]) [0x15, BitVec.ofNat 8 ((1 : ToolId).val + 1)] [])
    ∧ (∀ p ∈ [least, most, worn], p.headD 0 = 0x13 ∧ p.length = 10 ∧ 1 ≤ field p 2 2 ∧ field p 2 2 ≤ 60000
        ∧ field p 4 2 ≤ 10000)
    ∧ field least 1 1 = (2 : ToolId).val + 1 ∧ field worn 1 1 = (1 : ToolId).val + 1
    ∧ (shop.tool 2).state ≠ .vacant ∧ (shop.tool 2).state ≠ .active ∧ (shop.tool 2).life = .wheel wheelLife
    ∧ (shop.tool 2).link = none
    ∧ (worked.tool 1).state = .active ∧ (worked.tool 1).link = some ⟨spindle, .current⟩
    ∧ (worked.role spindle).state = .running ∧ (worked.role spindle).record.current = some 1
    ∧ (worked.tool 1).flags.final = true ∧ field worn 2 2 ≤ (worked.tool 1).acc.wd
    ∧ (shop.tool 2).flags.pinned = false ∧ (pinned.tool 1).flags.pinned = true
    ∧ (pinned.tool 1).state ≠ .stored :=
  ⟨⟨asks _ _ (by decide +kernel), asks _ _ (by decide +kernel), asks _ _ (by decide +kernel),
    asks _ _ (by decide +kernel), asks _ _ (by decide +kernel), asks _ _ (by decide +kernel)⟩, by decide +kernel⟩

/-- The dresser in service with warn_wu at its life budget and one above it, its LIFE_WARN newly set; a wheel in
service that stays ACTIVE. -/
theorem witness_AdjustKeepsActive :
    let top : Payload := [0x13, 1] ++ le 4 0 ++ le 4 1000
    let above : Payload := [0x13, 1] ++ le 4 0 ++ le 4 1001
    let spins : Payload := [0x13, 2] ++ le 2 60000 ++ le 2 10000 ++ le 4 0
    (TakesRequest (asking shop top) top [] ∧ TakesRequest (asking shop above) above []
      ∧ TakesRequest (asking shop spins) spins [])
    ∧ (∀ p ∈ [top, above, spins], p.headD 0 = 0x13 ∧ p.length = 10)
    ∧ field top 1 1 = (0 : ToolId).val + 1 ∧ field above 1 1 = (0 : ToolId).val + 1
    ∧ (shop.tool 0).state = .active ∧ (shop.tool 0).life = .dresser ⟨1000, 10⟩ ∧ field top 6 4 ≤ 1000
    ∧ 1000 < field above 6 4 ∧ (shop.tool 0).acc.wt < 1000 ∧ (shop.tool 0).flags.lifeWarn = false
    ∧ 1000 - (shop.tool 0).acc.wt ≤ field top 6 4 ∧ (shop.tool 0).link = some ⟨dressing, .current⟩
    ∧ field spins 1 1 = (1 : ToolId).val + 1 ∧ (shop.tool 1).state = .active
    ∧ (shop.tool 1).life = .wheel wheelLife ∧ (shop.tool 1).flags.undersize = false
    ∧ (shop.tool 1).flags.final = false ∧ (shop.tool 1).lifeLeft ≠ 0 :=
  ⟨⟨asks _ _ (by decide +kernel), asks _ _ (by decide +kernel), asks _ _ (by decide +kernel)⟩, by decide +kernel⟩

/-- A PINNED stored wheel, the dressing role and the spindle waiting in its pool: the wheel fits the second. -/
def queued (o : OrderState) : State :=
  let s := withTool (held (entry .waiting none) o) 2 ((wheel .stored none).withPinned true)
  s.setPool 0 [dressing, spindle]

/-- A PINNED stored wheel, with only the dressing role waiting in its pool, and with no role waiting. -/
theorem witness_UnpinServesNone :
    let few := (queued .ordered).setPool 0 [dressing]
    let bare := (queued .ordered).setPool 0 []
    (TakesRequest (asking few [0x15, 3]) [0x15, BitVec.ofNat 8 ((2 : ToolId).val + 1)] []
      ∧ TakesRequest (asking bare [0x15, 3]) [0x15, BitVec.ofNat 8 ((2 : ToolId).val + 1)] [])
    ∧ (∀ s ∈ [few, bare], (s.tool 2).state = .stored ∧ (s.tool 2).flags.pinned = true ∧ (s.tool 2).pool = some 0
        ∧ ∀ x ∈ s.pool 0, (s.tool 2).kind ≠ some (posKind x.pos))
    ∧ few.pool 0 = [dressing] ∧ bare.pool 0 = [] :=
  ⟨⟨asks _ _ (by decide +kernel), asks _ _ (by decide +kernel)⟩, by decide +kernel⟩

theorem witness_UnpinServesFirstQualifying :
    (TakesRequest (asking (queued .ordered) [0x15, 3]) [0x15, BitVec.ofNat 8 ((2 : ToolId).val + 1)] []
      ∧ TakesRequest (asking (queued .deferred) [0x15, 3]) [0x15, BitVec.ofNat 8 ((2 : ToolId).val + 1)] [])
    ∧ (∀ s ∈ [queued .ordered, queued .deferred], (s.tool 2).state = .stored ∧ (s.tool 2).flags.pinned = true
        ∧ (s.tool 2).pool = some 0 ∧ s.pool 0 = [dressing] ++ spindle :: []
        ∧ (s.tool 2).kind ≠ some (posKind dressing.pos) ∧ (s.role spindle).record.pool = some 0
        ∧ (s.tool 2).kind = some (posKind spindle.pos)
        ∧ (s.role spindle).record.takeoverMin ≤ (s.tool 2).lifeLeft)
    ∧ spindle ∉ ([] : List RoleId)
    ∧ ((queued .ordered).station 0).swap.order = some ⟨.ordered, [entry .waiting none], 900000, 0⟩
    ∧ ((queued .deferred).station 0).swap.order = some ⟨.deferred, [entry .waiting none], 900000, 0⟩ :=
  ⟨⟨asks _ _ (by decide +kernel), asks _ _ (by decide +kernel)⟩, by decide +kernel⟩

/-- A tripped wheel with a count of 258, BROKEN and current at the spindle or RETIRED. -/
def tripped (st : ToolState) (s : State) : State :=
  let x := wheel st (if st = .broken then some ⟨spindle, .current⟩ else none)
  withTool s 1 { x with
    flags := { noFlags with breakMark := true }
    acc := { Accounts.zero with tripCount := 258 } }

/-- The spindle with a staged tool; a worn-out wheel; one with a window; one with a RESERVED entry. -/
theorem witness_ReleaseReturnsTool :
    let ask := fun s => asking s [0x18, 2, 2, 1]
    let plain := tripped .broken (shop.setRoleState spindle .needy)
    let staged := plain.setRole spindle ⟨{ toolRole 1 with staged := some 2 }, .staged⟩
    let worn := withTool plain 1 { plain.tool 1 with flags := { noFlags with breakMark := true, undersize := true } }
    let window := plain.setSwap 0 ⟨some ⟨[1], 9000, 9000⟩, none⟩
    let two := plain.setSwap 0 ⟨some ⟨[1, 2], 9000, 9000⟩, none⟩
    let order := tripped .broken (held (entry .reserved (some 2)) .ordered)
    (∀ s ∈ [plain, staged, worn, window, two, order, tripped .retired shop],
      s.powered = true ∧ (s.link 0).pendingRate = none ∧ (s.tool 1).flags.breakMark = true
        ∧ (s.tool 1).acc.tripCount = (2 : Byte).toNat + 256 * (1 : Byte).toNat)
    ∧ TakesRequest (ask plain) [0x18, BitVec.ofNat 8 ((1 : ToolId).val + 1), 2, 1] []
    ∧ TakesRequest (asking plain [0x18, 2, 1, 1]) [0x18, BitVec.ofNat 8 ((1 : ToolId).val + 1), 1, 1] []
    ∧ (1 : Byte).toNat + 256 * (1 : Byte).toNat ≠ 258
    ∧ ((tripped .retired shop).tool 1).state = .retired
    ∧ (∀ s ∈ [plain, staged, worn, window, two, order], (s.tool 1).state = .broken
        ∧ (s.tool 1).link = some ⟨spindle, .current⟩ ∧ (s.role spindle).record.current = some 1)
    ∧ (staged.role spindle).record.staged ≠ none
    ∧ (∀ s ∈ [plain, worn, window, two, order], (s.role spindle).record.staged = none)
    ∧ (worn.tool 1).lifeSpent = true ∧ (∀ s ∈ [plain, window, two, order], (s.tool 1).lifeSpent = false)
    ∧ (∀ s ∈ [plain, window, two], (s.station 0).swap.order = none)
    ∧ (window.station 0).swap.window = some ⟨[1], 9000, 9000⟩ ∧ (∀ pos ∈ [(1 : Pos)], pos = spindle.pos)
    ∧ (two.station 0).swap.window = some ⟨[1, 2], 9000, 9000⟩
    ∧ ([1, 2] : List Pos).filter (fun pos => pos != spindle.pos) ≠ []
    ∧ (order.station 0).swap = { window := none, order := some ⟨.ordered, [entry .reserved (some 2)], 900000, 0⟩ }
    ∧ (entry .reserved (some 2)).pos = spindle.pos ∧ (2 : ToolId) ≠ 1 ∧ ∀ q, order.pool q = [] :=
  ⟨by decide +kernel, asks _ _ (by decide +kernel), asks _ _ (by decide +kernel), by decide +kernel⟩

/-- The order of `releasing`: an entry of the spindle, then these. -/
def several (st : EntryState) (others : List Entry) : Order :=
  ⟨.ordered, entry st (if st = .waiting then none else some 2) :: others, 900000, 0⟩

/-- The spindle's wheel tripped, with this order open; the roles in pool 1's queue wait. -/
def releasing (st : EntryState) (others : List Entry) (queue : List RoleId) : State :=
  let s := (tripped .broken (held (entry st (some 2)) .ordered)).setSwap 0 ⟨none, some (several st others)⟩
  queue.foldl (fun s r => if r = spindle then s else s.setRole r ⟨toolRole 3, .waiting⟩) (s.setPool 0 queue)

/-- A WAITING entry with another and alone; a RESERVED one whose tool goes to a role of the same order, to a role of
another station, and to none, with an entry left and with a DONE one left; an order without an entry for the spindle. -/
theorem witness_ReleaseWithdrawsEntry :
    let other : Entry := ⟨2, 3, none, .broken, .waiting⟩
    let done : Entry := ⟨3, 4, some 5, .worn, .done⟩
    let near : RoleId := ⟨0, 2⟩
    let far : RoleId := ⟨1, 1⟩
    let away := (releasing .reserved [other] [far]).setSwap 1 ⟨none, some ⟨.ordered, [⟨1, 3, none, .broken, .waiting⟩], 5, 5⟩⟩
    let states := [releasing .waiting [other] [spindle, near], releasing .waiting [] [spindle],
      releasing .reserved [other] [near], away, releasing .reserved [other] [], releasing .reserved [done] []]
    (∀ s ∈ states, s.powered = true ∧ (s.link 0).pendingRate = none ∧ (s.tool 1).flags.breakMark = true
        ∧ (s.tool 1).acc.tripCount = 258 ∧ (s.tool 1).state = .broken ∧ (s.tool 1).link = some ⟨spindle, .current⟩
        ∧ (s.role spindle).record.current = some 1 ∧ (s.role spindle).record.staged = none
        ∧ (s.tool 1).lifeSpent = false ∧ (s.station 0).swap.window = none)
    ∧ (∀ l ∈ [[other], [done], []], ∀ st ∈ [EntryState.waiting, .reserved],
        ((several st l).entries.find? fun x => x.pos == spindle.pos)
          = some (entry st (if st = .waiting then none else some 2))
        ∧ ((several st l).entries.filter fun x => x.pos != spindle.pos) = l)
    ∧ ((releasing .waiting [other] [spindle, near]).station 0).swap = ⟨none, some (several .waiting [other])⟩
    ∧ (away.station 0).swap = ⟨none, some (several .reserved [other])⟩ ∧ (away.station 1).swap.order ≠ none
    ∧ GoesTo (releasing .reserved [other] [near]) (wheel .stored none) 0 [] near [] ∧ near ≠ spindle
    ∧ GoesTo away (wheel .stored none) 0 [] far [] ∧ far.station ≠ 0
    ∧ (∀ p, (releasing .reserved [other] []).pool p = []) ∧ (∀ p, (releasing .reserved [done] []).pool p = [])
    ∧ (∀ s ∈ states, { s.tool 2 with state := .stored, link := none } = wheel .stored none)
    ∧ ∀ e ∈ [other, done], e.pos ≠ spindle.pos := by
  unfold GoesTo FitsRole
  decide +kernel

/-- R98, R119: the tool set aside for the released spindle goes to the other role of the order. -/
theorem test_release_serves_other_role :
    let t := after .toolRelease (asking (releasing .reserved [⟨2, 3, none, .broken, .waiting⟩] [⟨0, 2⟩]) [0x18, 2, 2, 1])
    (t.tool 1).state = .active ∧ (t.role spindle).state = .running ∧ (t.tool 2).link = some ⟨⟨0, 2⟩, .reserved⟩
      ∧ (t.station 0).swap.order.map (fun o => o.entries) = some [⟨2, 3, some 2, .broken, .reserved⟩] := by
  decide +kernel

/-- A FILLING plan of two steps, the first one written. -/
def filling : StagedPlan := ⟨6, .standing, .filling, [some planStep, none]⟩

/-- Plan Begin with revision 0, modes 0 and 3, counts 0 and 25; Plan Steps without a staged plan, with no entry, at index
0, past the count, and with a position, a journal and a peak_lo out of range. -/
theorem witness_PlanRequestsTurnedAway :
    let s := shop.setPlans 0 ⟨some plan, some filling, none⟩
    let begins := fun revision mode count : Byte => ([0x20, 1, revision, 0, mode, count] : Payload)
    let steps := fun (first : Byte) (x : PlanStep) => ([0x21, 1, first, 1] ++ stepBytes x : Payload)
    let empty : Payload := [0x21, 1, 1, 0]
    (∀ p ∈ [begins 0 1 1, begins 1 0 1, begins 1 3 1, begins 1 1 0, begins 1 1 25], TakesRequest (asking shop p) p [])
    ∧ (∀ p ∈ [empty, steps 0 planStep, steps 3 planStep, steps 1 { planStep with pos := 0 },
        steps 1 { planStep with journal := 16 }, steps 1 { planStep with peakLo := 1500 }], TakesRequest (asking s p) p [])
    ∧ (∀ p ∈ [empty, steps 0 planStep, steps 3 planStep, steps 1 { planStep with pos := 0 },
        steps 1 { planStep with journal := 16 }, steps 1 { planStep with peakLo := 1500 }], p.headD 0 = 0x21
          ∧ p.length = 4 + 11 * field p 3 1 ∧ field p 1 1 = (0 : StationId).val + 1)
    ∧ TakesRequest (asking shop (steps 1 planStep)) (steps 1 planStep) []
    ∧ (s.station 0).plans.staged = some filling ∧ (shop.station 0).plans.staged = none
    ∧ field empty 3 1 < 1 ∧ field (steps 0 planStep) 2 1 < 1 ∧ filling.steps.length < 3 + 1 - 1
    ∧ field (steps 1 { planStep with pos := 0 }) 4 1 < 1 ∧ 15 < field (steps 1 { planStep with journal := 16 }) 5 1
    ∧ ¬ field (steps 1 { planStep with peakLo := 1500 }) 13 2
        < field (steps 1 { planStep with peakLo := 1500 }) 11 2 := by
  exact ⟨fun p _ => asks _ _ (by decide +kernel), fun p _ => asks _ _ (by decide +kernel), by decide +kernel,
    asks _ _ (by decide +kernel), by decide +kernel⟩

/-- One step and 24 for Plan Begin; a filled and an empty slot for Plan Drop; Plan Steps that leaves a step
unwritten, that completes the plan, and that names an undefined role. -/
theorem witness_PlanRequestsFillStagedSlot :
    let s := shop.setPlans 0 ⟨some plan, some filling, none⟩
    let astray : PlanStep := { planStep with pos := 4 }
    let asksSteps := fun (first : Nat) (x : PlanStep) =>
      ([0x21, 1, BitVec.ofNat 8 first, 1] ++ stepBytes x : Payload)
    (TakesRequest (asking shop [0x20, 1, 1, 0, 1, 1]) [0x20, BitVec.ofNat 8 ((0 : StationId).val + 1), 1, 0,
        BitVec.ofNat 8 PlanMode.standing.code, BitVec.ofNat 8 1] []
      ∧ TakesRequest (asking shop [0x20, 8, 0xFF, 0xFF, 2, 24]) [0x20, BitVec.ofNat 8 ((7 : StationId).val + 1),
        0xFF, 0xFF, BitVec.ofNat 8 PlanMode.onePart.code, BitVec.ofNat 8 24] []
      ∧ TakesRequest (asking s [0x22, 1]) [0x22, BitVec.ofNat 8 ((0 : StationId).val + 1)] []
      ∧ TakesRequest (asking shop [0x22, 1]) [0x22, BitVec.ofNat 8 ((0 : StationId).val + 1)] []
      ∧ TakesRequest (asking s (asksSteps 1 planStep)) (asksSteps 1 planStep) []
      ∧ TakesRequest (asking s (asksSteps 2 planStep)) (asksSteps 2 planStep) []
      ∧ TakesRequest (asking s (asksSteps 2 astray)) (asksSteps 2 astray) [])
    ∧ asksSteps 2 planStep = 0x21 :: BitVec.ofNat 8 ((0 : StationId).val + 1) :: BitVec.ofNat 8 2
        :: BitVec.ofNat 8 [planStep].length :: [planStep].flatMap stepBytes
    ∧ (s.station 0).plans.staged = some filling ∧ (shop.station 0).plans.staged = none
    ∧ 2 + [planStep].length ≤ filling.steps.length + 1
    ∧ (∀ x ∈ [planStep, astray], x.pos ≠ 0 ∧ 1 ≤ x.journal ∧ x.journal ≤ 15 ∧ x.baseCost ≤ 4000 ∧ 1 ≤ x.eExp
        ∧ x.eExp ≤ 65535 ∧ 1 ≤ x.peakHi ∧ x.peakHi ≤ 2000 ∧ x.peakLo < x.peakHi)
    ∧ none ∈ [some planStep, none] ∧ none ∉ [some planStep, some planStep]
    ∧ (s.role ⟨0, planStep.pos⟩).record.defined = true ∧ (s.role ⟨0, astray.pos⟩).record.defined = false :=
  ⟨⟨asks _ _ (by decide +kernel), asks _ _ (by decide +kernel), asks _ _ (by decide +kernel),
    asks _ _ (by decide +kernel), asks _ _ (by decide +kernel), asks _ _ (by decide +kernel),
    asks _ _ (by decide +kernel)⟩, by decide +kernel⟩

/-- Role Define of a wheel role and of a dresser role at the ends of their ranges, over an undefined role and
over one with a tool of that pool; Role Clear; both at a station that is not OFFLINE. -/
theorem witness_RoleDefineAndClear :
    let wheelRole : Payload := [0x30, 1, 4, 1] ++ le 4 65535 ++ [4] ++ le 2 1024 ++ le 2 4096 ++ List.replicate 6 0
    let plainRole : Payload := [0x30, 1, 1, 1] ++ le 4 0 ++ [1] ++ le 2 0 ++ le 2 256 ++ List.replicate 6 0
    let dresserRole : Payload := [0x30, 1, 0, 1] ++ le 4 1000000000 ++ [1] ++ List.replicate 4 0 ++ le 2 2000
      ++ le 2 1999 ++ le 2 4000
    let off := shop.setStationState 0 .offline
    let empty := (off.setRole spindle ⟨{ toolRole 1 with current := none }, .empty⟩).setPlans 0 ⟨none, none, none⟩
    (∀ p ∈ [wheelRole, plainRole, dresserRole], p.headD 0 = 0x30 ∧ p.length = 19
        ∧ field p 1 1 = (0 : StationId).val + 1 ∧ field p 3 1 = (0 : PoolId).val + 1 ∧ 1 ≤ field p 8 1
        ∧ field p 8 1 ≤ 4)
    ∧ (TakesRequest (asking off wheelRole) wheelRole [] ∧ TakesRequest (asking off plainRole) plainRole []
      ∧ TakesRequest (asking off dresserRole) dresserRole [] ∧ TakesRequest (asking shop wheelRole) wheelRole []
      ∧ TakesRequest (asking empty [0x31, 1, 1])
          [0x31, BitVec.ofNat 8 ((0 : StationId).val + 1), BitVec.ofNat 8 (1 : Pos).val] []
      ∧ TakesRequest (asking shop [0x31, 1, 1])
          [0x31, BitVec.ofNat 8 ((0 : StationId).val + 1), BitVec.ofNat 8 (1 : Pos).val] [])
    ∧ (∀ p ∈ [wheelRole, plainRole], field p 4 4 ≤ 65535 ∧ field p 9 2 ≤ 1024 ∧ 256 ≤ field p 11 2
        ∧ field p 11 2 ≤ 4096)
    ∧ field wheelRole 2 1 = (4 : Pos).val ∧ field plainRole 2 1 = (1 : Pos).val
    ∧ field dresserRole 2 1 = (0 : Pos).val ∧ field dresserRole 4 4 ≤ 1000000000 ∧ 1 ≤ field dresserRole 13 2
    ∧ field dresserRole 13 2 ≤ 2000 ∧ field dresserRole 15 2 < field dresserRole 13 2
    ∧ field dresserRole 17 2 ≤ 4000
    ∧ off.stationState 0 = .offline ∧ shop.stationState 0 ≠ .offline ∧ (off.role ⟨0, 4⟩).record.current = none
    ∧ (off.role spindle).record.pool = some 0 ∧ (off.role dressing).record.pool = some 0
    ∧ empty.stationState 0 = .offline ∧ (empty.role spindle).record.defined = true
    ∧ (empty.role spindle).record.current = none ∧ (empty.role spindle).record.staged = none
    ∧ (empty.station 0).plans = ⟨none, none, none⟩ :=
  ⟨by decide +kernel, ⟨asks _ _ (by decide +kernel), asks _ _ (by decide +kernel), asks _ _ (by decide +kernel),
    asks _ _ (by decide +kernel), asks _ _ (by decide +kernel), asks _ _ (by decide +kernel)⟩, by decide +kernel⟩

/-- An EMPTY spindle with a sound and with a worn-out wheel in the store; a RUNNING and a NEEDY spindle. -/
theorem witness_MountAndUnmount :
    let off := shop.setStationState 0 .offline
    let empty := off.setRole spindle ⟨{ toolRole 1 with current := none }, .empty⟩
    let spent := withTool empty 2 { wheel .stored none with flags := { noFlags with undersize := true } }
    let worn := needy.setStationState 0 .offline
    (∀ s ∈ [empty, spent], TakesRequest (asking s [0x32, 1, 1, 3]) [0x32, BitVec.ofNat 8 ((0 : StationId).val + 1),
        BitVec.ofNat 8 (1 : Pos).val, BitVec.ofNat 8 ((2 : ToolId).val + 1)] [])
    ∧ (∀ s ∈ [off, worn], TakesRequest (asking s [0x33, 1, 1]) [0x33, BitVec.ofNat 8 ((0 : StationId).val + 1),
        BitVec.ofNat 8 (1 : Pos).val] [])
    ∧ (∀ s ∈ [empty, spent, off, worn], s.stationState 0 = .offline ∧ (s.role spindle).record.defined = true)
    ∧ (∀ s ∈ [empty, spent], (s.role spindle).state = .empty ∧ (s.role spindle).record.current = none
        ∧ (s.tool 2).state = .stored ∧ (s.tool 2).kind = some (posKind 1)
        ∧ (s.tool 2).pool = (s.role spindle).record.pool)
    ∧ (empty.tool 2).lifeSpent = false ∧ (spent.tool 2).lifeSpent = true
    ∧ (off.role spindle).state = .running ∧ (off.role spindle).record.current = some 1
    ∧ (off.tool 1).state = .active ∧ (∀ q, off.pool q = [])
    ∧ (worn.role spindle).state = .needy ∧ (worn.role spindle).record.current = some 1
    ∧ (worn.tool 1).state = .worn := by
  refine ⟨?_, ?_, by decide +kernel⟩
  · simp only [List.mem_cons, List.not_mem_nil, or_false, forall_eq_or_imp, forall_eq]
    exact ⟨asks _ _ (by decide +kernel), asks _ _ (by decide +kernel)⟩
  · simp only [List.mem_cons, List.not_mem_nil, or_false, forall_eq_or_imp, forall_eq]
    exact ⟨asks _ _ (by decide +kernel), asks _ _ (by decide +kernel)⟩

/-- A wheel unmounted at station 2 for which the spindle of station 1 waits, with the dressing role before it; a PINNED
one; one for which only the dressing role waits. -/
theorem witness_UnmountServesRole :
    let r : RoleId := ⟨1, 4⟩
    let s := (withTool lacking 3 (wheel .active (some ⟨r, .current⟩))).setRole r ⟨toolRole 3, .running⟩
    let p : Payload := [0x33, BitVec.ofNat 8 ((1 : StationId).val + 1), BitVec.ofNat 8 (4 : Pos).val]
    let stored : ToolRecord := wheel .stored none
    (TakesRequest (asking s p) p [] ∧ TakesRequest (asking (s.setPool 0 [dressing]) p) p [])
    ∧ s.stationState 1 = .offline ∧ (s.role ⟨1, 4⟩).record.defined = true
    ∧ (s.role ⟨1, 4⟩).record.current = some 3 ∧ (s.role ⟨1, 4⟩).state = .running ∧ (s.tool 3).state = .active
    ∧ { s.tool 3 with state := .stored, link := none } = stored ∧ GoesTo s stored 0 [dressing] spindle []
    ∧ spindle ≠ ⟨1, 4⟩ ∧ NotServed s (stored.withPinned true) ∧ NotServed (s.setPool 0 [dressing]) stored := by
  refine ⟨⟨asks _ _ (by decide +kernel), asks _ _ (by decide +kernel)⟩, ?_⟩
  unfold GoesTo NotServed FitsRole
  refine ⟨by decide +kernel, by decide +kernel, by decide +kernel, by decide +kernel, by decide +kernel,
    by decide +kernel, by decide +kernel, by decide +kernel, .inl rfl, .inr fun q h => ?_⟩
  cases h
  decide +kernel

/-- Settings at both ends of their ranges and one below; an OFFLINE station and one that is not. -/
theorem witness_ConfigureAndHalt :
    let off := shop.setStationState 0 .offline
    let least : Payload := [0x40, 1] ++ le 2 0 ++ le 4 0 ++ le 2 10 ++ le 2 0 ++ le 4 0 ++ le 2 0
    let most : Payload := [0x40, 1] ++ le 2 60000 ++ le 4 120000 ++ le 2 7200 ++ le 2 1000 ++ le 4 1000000 ++ le 2 4000
    let below : Payload := [0x40, 1] ++ le 2 60000 ++ le 4 59999 ++ le 2 10 ++ le 2 0 ++ le 4 0 ++ le 2 0
    (TakesRequest (asking off least) least [] ∧ TakesRequest (asking off most) most []
      ∧ TakesRequest (asking off below) below [] ∧ TakesRequest (asking shop least) least []
      ∧ TakesRequest (asking off [0x43, 1]) [0x43, BitVec.ofNat 8 ((0 : StationId).val + 1)] []
      ∧ TakesRequest (asking shop [0x43, 1]) [0x43, BitVec.ofNat 8 ((0 : StationId).val + 1)] [])
    ∧ (∀ p ∈ [least, most, below], p.headD 0 = 0x40 ∧ p.length = 18 ∧ field p 1 1 = (0 : StationId).val + 1)
    ∧ (∀ p ∈ [least, most], field p 2 2 ≤ 60000 ∧ field p 2 2 ≤ field p 4 4 ∧ field p 4 4 ≤ 120000
        ∧ 10 ≤ field p 8 2 ∧ field p 8 2 ≤ 7200 ∧ field p 10 2 ≤ 1000 ∧ field p 12 4 ≤ 1000000
        ∧ field p 16 2 ≤ 4000)
    ∧ ¬ field below 2 2 ≤ field below 4 4 ∧ off.stationState 0 = .offline ∧ shop.stationState 0 ≠ .offline
    ∧ ((busy 1 shop).link (stationLink 0)).sending = some ⟨.answer .taken, 10000⟩ :=
  ⟨⟨asks _ _ (by decide +kernel), asks _ _ (by decide +kernel), asks _ _ (by decide +kernel),
    asks _ _ (by decide +kernel), asks _ _ (by decide +kernel), asks _ _ (by decide +kernel)⟩, by decide +kernel⟩

/-- The store FAILED; an OVERDUE wheel; no plan; a step without a tool; READY; a NEEDY role. -/
theorem witness_StationStartOpensStation :
    let off := shop.setStationState 0 .offline
    let failed : State := { off with store := { off.store with state := .failed } }
    let overdue := withTool off 1 { off.tool 1 with flags := { noFlags with overdue := true } }
    let bare := off.setPlans 0 ⟨none, none, none⟩
    let astray : Plan := ⟨5, .standing, [{ planStep with pos := 4 }]⟩
    let untooled := off.setPlans 0 ⟨some astray, none, none⟩
    let worn := needy.setStationState 0 .offline
    (TakesRequest (asking off [0x41, 1]) [0x41, BitVec.ofNat 8 ((0 : StationId).val + 1)] []
      ∧ TakesRequest (asking (busy 1 off) [0x41, 1]) [0x41, BitVec.ofNat 8 ((0 : StationId).val + 1)] [])
    ∧ (∀ s ∈ [off, failed, overdue, bare, untooled, worn, busy 1 off], s.powered = true
        ∧ (s.link 0).pendingRate = none ∧ s.stationState 0 = .offline
        ∧ ∀ pos, (s.role ⟨0, pos⟩).record.staged = none)
    ∧ failed.store.state = .failed ∧ (overdue.tool 1).flags.overdue = true
    ∧ (overdue.role ⟨0, 1⟩).record.current = some 1
    ∧ (∀ s ∈ [off, bare, untooled, worn, busy 1 off], s.store.state = .ok
        ∧ ∀ pos u, (s.role ⟨0, pos⟩).record.current = some u → (s.tool u).flags.overdue = false)
    ∧ (bare.station 0).plans.candidate = none ∧ (untooled.station 0).plans.candidate = some (astray, false)
    ∧ (untooled.role ⟨0, 4⟩).record.current = none
    ∧ (∀ s ∈ [off, worn], (s.station 0).plans.candidate = some (plan, false)
        ∧ ∀ x ∈ plan.steps, (s.role ⟨0, x.pos⟩).record.current ≠ none)
    ∧ (∀ pos, (off.role ⟨0, pos⟩).state ≠ .needy) ∧ (worn.role ⟨0, 1⟩).state = .needy
    ∧ ((busy 1 off).link (stationLink 0)).sending = some ⟨.answer .taken, 10000⟩ :=
  ⟨⟨asks _ _ (by decide +kernel), asks _ _ (by decide +kernel)⟩, by decide +kernel⟩

/-- A station that starts with a wheel DRESS_DUE, its link free and sending. -/
theorem witness_StationStartAsksDress :
    let off := withTool (shop.setStationState 0 .offline) 1
      { wheel .active (some ⟨spindle, .current⟩) with flags := { noFlags with dressDue := true } }
    (off.role ⟨0, 1⟩).record.current = some 1 ∧ (off.tool 1).flags.dressDue = true
      ∧ LinkFree off (stationLink 0) ∧ ¬ LinkFree (busy 1 off) (stationLink 0) := by
  unfold LinkFree
  decide +kernel

/-- OFFLINE; READY with no part; a part in progress; a sending link. -/
theorem witness_StationStopClosesStation :
    let off := shop.setStationState 0 .offline
    let p : Payload := [0x42, BitVec.ofNat 8 ((0 : StationId).val + 1)]
    (TakesRequest (asking off p) p [] ∧ TakesRequest (asking shop p) p [] ∧ TakesRequest (asking grinding p) p []
      ∧ TakesRequest (asking (busy 1 grinding) p) p [])
    ∧ off.stationState 0 = .offline ∧ shop.stationState 0 ≠ .offline ∧ (shop.station 0).intake.part = none
    ∧ (grinding.station 0).intake.part ≠ none ∧ (1 : StationId) ≠ 0
    ∧ ((busy 1 grinding).link (stationLink 0)).sending = some ⟨.answer .taken, 10000⟩ :=
  ⟨⟨asks _ _ (by decide +kernel), asks _ _ (by decide +kernel), asks _ _ (by decide +kernel),
    asks _ _ (by decide +kernel)⟩, by decide +kernel⟩

/-- A part in progress under a STANDING plan and under a ONE_PART one. -/
theorem witness_StationStopReturnsPlan :
    let onePart := grinding.setPlans 0 ⟨some { plan with mode := .onePart }, none, some plan⟩
    (∀ s ∈ [grinding, onePart], s.powered = true ∧ (s.link 0).pendingRate = none ∧ s.stationState 0 ≠ .offline
        ∧ (s.station 0).intake.part ≠ none)
      ∧ (grinding.station 0).plans.active = some plan ∧ plan.mode = .standing
      ∧ (onePart.station 0).plans.active = some { plan with mode := .onePart }
      ∧ (grinding.station 0).swap.order = none := by
  decide +kernel

/-- The order of `withdrawing`: tool 3 is set aside for the spindle, and the role of position 2 waits. -/
def opened : Order := ⟨.ordered, [entry .reserved (some 2), ⟨2, 3, none, .broken, .waiting⟩], 900000, 0⟩

/-- A HELD station with this order, its role of position 3 STAGED. -/
def withdrawing : State :=
  let s := withTool (withTool (withTool (held (entry .reserved (some 2)) .ordered) 3
    (wheel .broken (some ⟨⟨0, 2⟩, .current⟩))) 4 (wheel .active (some ⟨⟨0, 3⟩, .current⟩))) 5
    (wheel .reserved (some ⟨⟨0, 3⟩, .staged⟩))
  (((s.setRole ⟨0, 2⟩ ⟨toolRole 3, .waiting⟩).setRole ⟨0, 3⟩ ⟨{ toolRole 4 with staged := some 5 }, .staged⟩).setPool 0
    [⟨0, 2⟩]).setSwap 0 ⟨none, some opened⟩

theorem withdrawing_coherent : RolesCoherent withdrawing := by
  have pools : ∀ p, (withdrawing.pool p).Nodup
      ∧ ∀ r ∈ withdrawing.pool p, (withdrawing.role r).state = .waiting
        ∧ (withdrawing.role r).record.pool = some p := by decide +kernel
  have swaps : ∀ n, (withdrawing.station n).swap = ⟨none, if n = 0 then some opened else none⟩ := by decide +kernel
  have copies : ∀ (n : StationId) (p : Pos), withdrawing.copies.roles[n][p] = .sound .undefined := by decide +kernel
  have queue : (⟨0, 2⟩ : RoleId) ∈ withdrawing.pool 0 := by decide +kernel
  have fits : EntryFits withdrawing 0 (entry .reserved (some 2))
      ∧ EntryFits withdrawing 0 ⟨2, 3, none, .broken, .waiting⟩ := by
    unfold EntryFits
    refine ⟨⟨by decide +kernel, by decide +kernel, fun _ => ⟨by decide +kernel, 2, by decide +kernel⟩, ?_, ?_⟩,
      ⟨by decide +kernel, by decide +kernel, ?_, by decide +kernel, ?_⟩⟩ <;> exact fun h => by cases h
  have roles : ∀ (n : StationId) (p : Pos),
      ((withdrawing.role ⟨n, p⟩).state = .reserved → n = 0 ∧ p = 1)
      ∧ ((withdrawing.role ⟨n, p⟩).state = .waiting → n = 0 ∧ p = 2 ∧ (withdrawing.role ⟨n, p⟩).record.pool = some 0)
      ∧ (withdrawing.role ⟨n, p⟩).record.Coherent
      ∧ (∀ u : ToolId, (withdrawing.role ⟨n, p⟩).record.staged = some u →
          (withdrawing.tool u).link = some ⟨⟨n, p⟩, .staged⟩ ∧ (withdrawing.tool u).state = .reserved)
      ∧ ∀ u : ToolId, (withdrawing.role ⟨n, p⟩).record.current = some u →
          (withdrawing.tool u).link = some ⟨⟨n, p⟩, .current⟩
          ∧ ((withdrawing.tool u).state = .active ∨ (withdrawing.tool u).state = .worn
            ∨ (withdrawing.tool u).state = .broken) := by
    unfold RoleRecord.Coherent
    decide +kernel
  refine ⟨fun p => (pools p).1, fun p => (pools p).2, fun ⟨n, p⟩ => ?_, fun n w h => ?_, fun n o h => ?_,
    fun r x h => ?_, fun r x h => by cases h⟩
  · obtain ⟨h1, h2, h3, h4, h5⟩ := roles n p
    refine ⟨h3, h5, h4, fun h => ?_, fun h => ?_⟩
    · obtain ⟨rfl, rfl⟩ := h1 h
      exact ⟨opened, entry .reserved (some 2), by decide +kernel⟩
    · obtain ⟨rfl, rfl, h6⟩ := h2 h
      exact ⟨⟨0, h6, queue⟩, opened, ⟨2, 3, none, .broken, .waiting⟩, by decide +kernel⟩
  · rw [swaps n] at h
    cases h
  · rw [swaps n] at h
    by_cases h0 : n = 0
    · subst h0
      cases h
      exact ⟨by decide, by simpa [opened] using fits⟩
    · simp [h0] at h
  · rw [copies r.station r.pos] at h
    cases h
    exact ⟨fun h => (by cases h), fun _ => ⟨rfl, rfl⟩⟩

/-- A role with a staged tool, a RESERVED entry whose tool no other station's role waits for, and a WAITING entry. -/
theorem witness_StationStopWithdrawsOrder :
    TakesRequest (asking withdrawing [0x42, 1]) [0x42, BitVec.ofNat 8 ((0 : StationId).val + 1)] []
    ∧ withdrawing.stationState 0 ≠ .offline ∧ RolesCoherent (asking withdrawing [0x42, 1])
    ∧ (withdrawing.station 0).swap.order = some opened
    ∧ (withdrawing.role ⟨0, 3⟩).record.staged = some 5 ∧ (withdrawing.role ⟨0, 3⟩).record.current = some 4
    ∧ (withdrawing.role ⟨0, 0⟩).record.staged = none ∧ (∀ e ∈ opened.entries, e.pos ≠ 0)
    ∧ (∀ e ∈ opened.entries, e.state ≠ .done ∧ (withdrawing.role ⟨0, e.pos⟩).record.staged = none)
    ∧ ⟨2, 3, none, .broken, .waiting⟩ ∈ opened.entries ∧ (withdrawing.role ⟨0, 2⟩).record.pool = some 0
    ∧ entry .reserved (some 2) ∈ opened.entries ∧ (withdrawing.tool 2).flags.pinned = false
    ∧ ∀ q, ∀ r ∈ withdrawing.pool q, r.station = 0 :=
  ⟨asks _ _ (by decide +kernel), by decide +kernel, withdrawing_coherent, by decide +kernel⟩

/-- R164, R165: the tool set aside is stored again, no role waits, and the staged tool is adopted. -/
theorem test_station_stop_withdraws :
    let t := after .stationStop (asking withdrawing [0x42, 1])
    (t.tool 2).state = .stored ∧ t.pool 0 = [] ∧ (t.role ⟨0, 2⟩).state = .needy
      ∧ (t.role ⟨0, 3⟩).record.current = some 5 ∧ (t.tool 4).state = .retired
      ∧ (t.station 0).swap.order = none ∧ t.notices = [⟨0, .swapOrder⟩] := by
  decide +kernel

/-- Not HALTED; the store FAILED; with an order and without, with a part and without; a NEEDY role. -/
theorem witness_StationResumeClearsHalt :
    let p : Payload := [0x44, BitVec.ofNat 8 ((0 : StationId).val + 1)]
    let halted := shop.setStationState 0 .halted
    let failed : State := { halted with store := { halted.store with state := .failed } }
    let ordered := (held (entry .waiting none) .deferred).setStationState 0 .halted
    let worn := needy.setStationState 0 .halted
    (TakesRequest (asking shop p) p [] ∧ TakesRequest (asking halted p) p []
      ∧ TakesRequest (asking failed p) p [] ∧ TakesRequest (asking ordered p) p []
      ∧ TakesRequest (asking worn p) p [] ∧ TakesRequest (asking (standing shop .halted (some part)) p) p [])
    ∧ (shop.station 0).control.state ≠ .halted ∧ failed.store.state = .failed
    ∧ (∀ s ∈ [halted, ordered, worn, standing shop .halted (some part)], (s.station 0).control.state = .halted
        ∧ s.store.state = .ok
        ∧ ∀ pos u, (s.role ⟨0, pos⟩).record.current = some u → (s.tool u).flags.overdue = false)
    ∧ (∀ pos, (halted.role ⟨0, pos⟩).state ≠ .needy) ∧ (ordered.station 0).swap.order ≠ none
    ∧ (worn.station 0).swap.order = none ∧ (worn.role ⟨0, 1⟩).state = .needy :=
  ⟨⟨asks _ _ (by decide +kernel), asks _ _ (by decide +kernel), asks _ _ (by decide +kernel),
    asks _ _ (by decide +kernel), asks _ _ (by decide +kernel), asks _ _ (by decide +kernel)⟩, by decide +kernel⟩

/-- An order that completes, and one with a WAITING entry left. -/
theorem witness_SwapDoneStagesTools :
    let one := held (entry .reserved (some 2)) .ordered
    let two := one.setSwap 0 ⟨none, some ⟨.ordered, [entry .reserved (some 2), ⟨0, 0, none, .worn, .waiting⟩], 9, 0⟩⟩
    let named : List (Pos × ToolId) := [(1, 2)]
    let p : Payload := 0x50 :: BitVec.ofNat 8 ((0 : StationId).val + 1) :: BitVec.ofNat 8 named.length
      :: named.map fun x => BitVec.ofNat 8 x.1.val
    (TakesRequest (asking one p) p [] ∧ TakesRequest (asking two p) p [])
    ∧ (one.station 0).swap.order = some ⟨.ordered, [entry .reserved (some 2)], 900000, 0⟩
    ∧ (two.station 0).swap.order
        = some ⟨.ordered, [entry .reserved (some 2), ⟨0, 0, none, .worn, .waiting⟩], 9, 0⟩
    ∧ (named.map fun x => x.1).Nodup ∧ (named.map fun x => x.2).Nodup
    ∧ ([entry .reserved (some 2)].find? fun e => e.pos == 1) = some (entry .reserved (some 2)) :=
  ⟨⟨asks _ _ (by decide +kernel), asks _ _ (by decide +kernel)⟩, by decide +kernel⟩

/-- Another spare in the store; none; none for a ride-along entry whose tool is ACTIVE. -/
theorem witness_SwapRefusedChoosesAgain :
    let p : Payload := [0x51, BitVec.ofNat 8 ((0 : StationId).val + 1), BitVec.ofNat 8 (1 : Pos).val]
    let none' := held (entry .reserved (some 2)) .ordered
    let spare := withTool none' 3 (wheel .stored none)
    let rides : Entry := { entry .reserved (some 2) with reason := .rideAlong }
    let ride := withTool (held rides .ordered) 1 (wheel .active (some ⟨spindle, .current⟩))
    (TakesRequest (asking none' p) p [] ∧ TakesRequest (asking spare p) p [] ∧ TakesRequest (asking ride p) p [])
    ∧ (∀ s ∈ [none', spare, ride], (s.tool 2).state = .reserved ∧ (s.role spindle).record.pool = some 0)
    ∧ (none'.station 0).swap.order = some ⟨.ordered, [entry .reserved (some 2)], 900000, 0⟩
    ∧ (ride.station 0).swap.order = some ⟨.ordered, [rides], 900000, 0⟩
    ∧ ([rides].find? fun x => x.pos == 1) = some rides
    ∧ (∀ x : ToolId, x ≠ 3 → (spare.tool x).state ≠ .stored) ∧ (spare.tool 3).state = .stored
    ∧ (spare.tool 3).kind = some (posKind spindle.pos) ∧ (spare.tool 3).pool = (spare.role spindle).record.pool
    ∧ (spare.role spindle).record.takeoverMin ≤ (spare.tool 3).lifeLeft ∧ (spare.tool 3).flags.pinned = false
    ∧ (∀ s ∈ [none', ride], ∀ x : ToolId, (s.tool x).state ≠ .stored)
    ∧ (ride.role spindle).record.current = some 1 ∧ (1 : ToolId) ≠ 2 ∧ (ride.tool 1).state = .active :=
  ⟨⟨asks _ _ (by decide +kernel), asks _ _ (by decide +kernel), asks _ _ (by decide +kernel)⟩, by decide +kernel⟩

/-- No order; an ORDERED order; a DEFERRED one. -/
theorem witness_DeferAndResume :
    let ordered := held (entry .reserved (some 2)) .ordered
    let deferred := held (entry .reserved (some 2)) .deferred
    (∀ s ∈ [shop, ordered, deferred], s.powered = true ∧ (s.link 0).pendingRate = none)
    ∧ TakesRequest (asking shop [0x52, 1]) [0x52, BitVec.ofNat 8 ((0 : StationId).val + 1)] []
    ∧ TakesRequest (asking deferred [0x53, 1]) [0x53, BitVec.ofNat 8 ((0 : StationId).val + 1)] []
    ∧ TakesRequest (asking deferred [0x50, 1, 1, 4])
        [0x50, BitVec.ofNat 8 ((0 : StationId).val + 1), 0x01, BitVec.ofNat 8 (4 : Pos).val] []
    ∧ TakesRequest (asking deferred [0x51, 1, 0])
        [0x51, BitVec.ofNat 8 ((0 : StationId).val + 1), BitVec.ofNat 8 (0 : Pos).val] []
    ∧ (shop.station 0).swap.order = none
    ∧ (ordered.station 0).swap.order = some ⟨.ordered, [entry .reserved (some 2)], 900000, 0⟩
    ∧ (deferred.station 0).swap.order = some ⟨.deferred, [entry .reserved (some 2)], 900000, 0⟩ :=
  ⟨by decide +kernel, asks _ _ (by decide +kernel), asks _ _ (by decide +kernel), asks _ _ (by decide +kernel),
    asks _ _ (by decide +kernel), by decide +kernel⟩

/-! ### Witnesses: the invariants -/

/-- A state that meets an invariant and takes a step; that the reset state meets them all is a statement. -/
theorem witness_invariant_steps :
    (∃ t, step shop = .next t) ∧ (∀ n, (shop.station n).intake.queue.length ≤ 16) ∧ shop.notices.Nodup
      ∧ (∀ u, (shop.history u).length ≤ 4) ∧ (∀ l, (shop.link l).answers.length ≤ 488)
      ∧ shop.cell.intake.length ≤ 4 ∧ ∀ i : Fin 120, shop.store.failures[i] ≤ 3 :=
  ⟨⟨_, rfl⟩, by decide +kernel⟩

/-- A DRESS that waits behind a HOLD being sent; the HOLD ends and the DRESS begins. -/
theorem witness_directive_steps :
    let s := (shop.setControl 0 { (shop.station 0).control with dressSlot := some [1, 4] }).setLink 1
      { shop.link 1 with sending := some ⟨.directive [0x09], 1⟩ }
    (∀ n ps, (s.station n).control.dressSlot = some ps → ps = [1, 4])
      ∧ (∀ l x, (s.link l).sending = some x → x = ⟨.directive [0x09], 1⟩) ∧ (∃ t, step s = .next t)
      ∧ ((after (.directiveSend 0) (s.setLink 1 { s.link 1 with sending := none })).link 1).sending
          = some ⟨.directive [0x0B, 2, 1, 4], 90000⟩ :=
  ⟨by decide +kernel, by decide +kernel, ⟨_, rfl⟩, by decide +kernel⟩

/-- The shop meets the invariants of stations, of roles and, its plan record marked, of plans. -/
theorem witness_coherent_steps :
    let s := shop.mark (.plan 0)
    StationsCoherent s ∧ RolesCoherent s ∧ PlansFollow s ∧ ∃ t, step s = .next t := by
  have swaps : ∀ n, (shop.station n).swap = ⟨none, none⟩ := by decide +kernel
  have plans : ∀ n, (shop.station n).plans = ⟨if n = 0 then some plan else none, none, none⟩ := by decide +kernel
  have controls : ∀ n, (shop.station n).control.haltLine = false ∧ (shop.station n).control.cause = none
      ∧ (shop.station n).control.haltTool = none ∧ (shop.station n).intake.part = none
      ∧ (shop.station n).intake.pointer = 0 ∧ (shop.station n).intake.queue = []
      ∧ ((shop.station n).control.state = .offline ∨ (shop.station n).control.state = .ready) := by decide +kernel
  have copies : ∀ (n : StationId) (p : Pos), shop.copies.roles[n][p] = .sound .undefined
      ∧ shop.copies.plans[n] = .sound none := by decide +kernel
  have roles : ∀ (n : StationId) (p : Pos), (shop.role ⟨n, p⟩).state ≠ .reserved
      ∧ (shop.role ⟨n, p⟩).state ≠ .waiting ∧ (shop.role ⟨n, p⟩).record.staged = none
      ∧ ((shop.role ⟨n, p⟩).record.defined = true → (shop.role ⟨n, p⟩).record.pool ≠ none)
      ∧ ((shop.role ⟨n, p⟩).record.defined = false → (shop.role ⟨n, p⟩).record.current = none)
      ∧ ∀ u : ToolId, (shop.role ⟨n, p⟩).record.current = some u →
          (shop.tool u).link = some ⟨⟨n, p⟩, .current⟩ ∧ (shop.tool u).state = .active := by decide +kernel
  refine ⟨⟨fun n => ?_, fun n p h => ?_, fun n p h => by cases h⟩,
    ⟨by decide +kernel, by decide +kernel, fun r => ?_, fun n w h => ?_, fun n o h => ?_, fun r x h => ?_,
      fun r x h => by cases h⟩, fun _ n => ?_, _, rfl⟩
  · change (shop.station n).Coherent
    have slots : (shop.station n).plans.active = none ∨ (shop.station n).plans.active = some plan := by
      rw [plans n]
      by_cases h : n = 0 <;> simp [h]
    have back : (shop.station n).plans.returned = none := by rw [plans n]
    obtain ⟨h1, h2, h3, h4, h5, h6, h7 | h7⟩ := controls n <;> rcases slots with h8 | h8 <;>
      simp [Station.Coherent, PlanSlots.Coherent, swaps n, back, h1, h2, h3, h4, h5, h6, h7, h8, plan]
  · rw [show (shop.mark (.plan 0)).copies = shop.copies from rfl, (copies n 0).2] at h
    cases h
  · change RoleFits shop r
    obtain ⟨h1, h2, h3, h4, h5, h6⟩ := roles r.station r.pos
    exact ⟨⟨h4, fun h => ⟨h5 h, h3⟩⟩, fun u h => ⟨(h6 u h).1, .inl (h6 u h).2⟩, none_all h3, fun h => absurd h h1,
      fun h => absurd h h2⟩
  · rw [show ((shop.mark (.plan 0)).station n).swap = (shop.station n).swap from rfl, swaps n] at h
    cases h
  · rw [show ((shop.mark (.plan 0)).station n).swap = (shop.station n).swap from rfl, swaps n] at h
    cases h
  · rw [show (shop.mark (.plan 0)).copies = shop.copies from rfl, (copies r.station r.pos).1] at h
    cases h
    exact ⟨fun h => (by cases h), fun _ => ⟨rfl, rfl⟩⟩
  · by_cases h : n = 0
    · exact .inl (by subst h; decide +kernel)
    · refine .inr (.inr ⟨fun c h => (by cases h), ?_⟩)
      rw [show (shop.mark (.plan 0)).copies = shop.copies from rfl, (copies n 0).2,
        show ((shop.mark (.plan 0)).station n).plans = (shop.station n).plans from rfl, plans n]
      simp [PlanSlots.standing, h]

end Sys2Proof.Tests
end

section
/-!
PROOFS. What a request does to the part, whatever its kind: it leaves the intake, its rule runs, its reply
fills the slot and a store write may begin (R176, R187, R188). Later proofs give the rule's outcome and cite
`request_runs` or `refusal_runs`.
-/

namespace Sys2Proof.Machine

/-! ### What a frame says of one reading -/

namespace OnlyChanges

variable {s t : State} {as : List Area}

theorem tool (h : OnlyChanges s t as) (ha : .tools ∉ as) (u : ToolId) : t.tool u = s.tool u := by
  have same : t.tools = s.tools := h _ ha
  simp only [State.tool, same]

theorem history (h : OnlyChanges s t as) (ha : .histories ∉ as) (u : ToolId) : t.history u = s.history u := by
  have same : t.histories = s.histories := h _ ha
  simp only [State.history, same]

theorem role (h : OnlyChanges s t as) (ha : .roles ∉ as) (r : RoleId) : t.role r = s.role r := by
  have same : t.roles = s.roles := h _ ha
  simp only [State.role, same]

theorem pool (h : OnlyChanges s t as) (ha : .pools ∉ as) (q : PoolId) : t.pool q = s.pool q := by
  have same : t.pools = s.pools := h _ ha
  simp only [State.pool, same]

theorem station (h : OnlyChanges s t as) (ha : .stations ∉ as) (n : StationId) : t.station n = s.station n := by
  have same : t.stations = s.stations := h _ ha
  simp only [State.station, same]

theorem notices (h : OnlyChanges s t as) (ha : .notices ∉ as) : t.notices = s.notices := h _ ha

theorem cell (h : OnlyChanges s t as) (ha : .cell ∉ as) : t.cell = s.cell := h _ ha

end OnlyChanges

/-! ### Records that join the pending-write set (R187) -/

/-- The four kinds of records have disjoint ranges of places (R186). -/
theorem RecordId.place_inj {i j : RecordId} (h : i.place = j.place) : i = j := by
  obtain ⟨u⟩ | ⟨⟨n, p⟩⟩ | ⟨n⟩ | ⟨n⟩ := i <;> obtain ⟨v⟩ | ⟨⟨m, q⟩⟩ | ⟨m⟩ | ⟨m⟩ := j <;>
    simp only [RecordId.place, RecordId.tool.injEq, RecordId.role.injEq, RecordId.plan.injEq,
      RecordId.settings.injEq, RoleId.mk.injEq, Fin.ext_iff, reduceCtorEq] at h ⊢ <;> omega

theorem liveContent_id (s : State) (i : RecordId) : (s.liveContent i).id = i := by
  cases i <;> rfl

theorem liveContent_inj {s : State} {i j : RecordId} (h : s.liveContent i = s.liveContent j) : i = j := by
  rw [← liveContent_id s i, h, liveContent_id]

/-- Between two states the records in `ids`, and no other, have joined the pending-write set, and no write has begun
or ended. -/
def JoinsMarks (s t : State) (ids : List RecordId) : Prop :=
  t.store.inFlight = s.store.inFlight
    ∧ ∀ id : RecordId, t.store.marked[id.place] = true ↔ id ∈ ids ∨ s.store.marked[id.place] = true

theorem JoinsMarks.trans {s t v : State} {ids more : List RecordId} (h : JoinsMarks s t ids)
    (g : JoinsMarks t v more) (sub : more ⊆ ids) : JoinsMarks s v ids := by
  obtain ⟨flight, marks⟩ := h
  obtain ⟨flight', marks'⟩ := g
  refine ⟨flight'.trans flight, fun id => ?_⟩
  rw [marks', marks]
  exact ⟨fun h => h.elim (fun m => .inl (sub m)) fun joined => joined, .inr⟩

theorem OnlyChanges.joinsMarks {s t : State} {as : List Area} (h : OnlyChanges s t as) (ha : .marks ∉ as) :
    JoinsMarks s t [] := by
  obtain ⟨marked, -, flight⟩ := h _ ha
  exact ⟨flight, fun id => by simp [marked]⟩

theorem mark_joinsMarks (s : State) (i : RecordId) : JoinsMarks s (s.mark i) [i] := by
  refine ⟨rfl, fun j => ?_⟩
  rw [State.mark_marked, Vector.get_set]
  by_cases h : j = i
  · simp [h]
  · simp [h, mt RecordId.place_inj h]

/-- R187: a tool record that takes new content joins the pending-write set. -/
theorem putTool_joinsMarks {s : State} {u : ToolId} {x : ToolRecord} (h : x ≠ s.tool u) :
    JoinsMarks s (s.putTool u x) [.tool u] := by
  rw [State.putTool, if_neg (Ne.symm h)]
  exact mark_joinsMarks { s with tools := s.tools.set u x } (.tool u)

/-! ### The write that begins at the end of a step (R188) -/

theorem nextMarked_marked {st : Store} {id : RecordId} (h : st.nextMarked = some id) :
    st.marked[id.place] = true := by
  simpa using List.find?_some h

/-- R188: at the end of a step nothing happens, or the write of one marked record begins, which leaves the set. -/
theorem beginWrite_cases (s : State) :
    s.beginWrite = s ∨ ∃ id, s.store.inFlight = none ∧ s.store.marked[id.place] = true
      ∧ s.beginWrite = { s with store := { s.store with
          marked := s.store.marked.set id.place false, scan := id.place
          inFlight := some (s.liveContent id) } } := by
  unfold State.beginWrite
  split
  next ready =>
    cases next : s.store.nextMarked with
    | none => exact .inl rfl
    | some id => exact .inr ⟨id, ready.2.2, nextMarked_marked next, rfl⟩
  next => exact .inl rfl

/-- R187, R188: the records that join the set in a step have joined it after the step, or one of them is in flight. -/
theorem JoinsMarks.beginWrite {s t : State} {ids : List RecordId} (h : JoinsMarks s t ids) :
    MarksOnly s t.beginWrite ids := by
  obtain ⟨flight, marks⟩ := h
  intro j
  rcases beginWrite_cases t with none | ⟨i, idle, marked, write⟩
  · rw [none, ← marks j]
    refine ⟨fun h => h.elim id fun ⟨idle, busy⟩ => ?_, .inl⟩
    rw [flight, idle] at busy
    cases busy
  · have live : t.beginWrite.liveContent j = t.liveContent j := by rw [write]; cases j <;> rfl
    rw [live, write, ← flight, ← marks j]
    simp only [Vector.get_set, idle, true_and, Option.some.injEq]
    by_cases e : j = i
    · subst e; simp [marked]
    · simp [mt RecordId.place_inj e, mt liveContent_inj (Ne.symm e)]

/-! ### The taking of a request (R176) -/

/-- The state with the oldest request taken from the intake, on which the request's rule works. -/
def State.taken (s : State) (rest : List Payload) : State := { s with cell := { s.cell with intake := rest } }

theorem taken_onlyChanges (s : State) (rest : List Payload) : OnlyChanges s (s.taken rest) [.cell] := by
  intro a ha; cases a <;> simp_all [SameArea, State.taken]

@[simp] theorem replyPayload_nil (kind : Byte) (code : ReplyCode) :
    replyPayload kind code [] = [0x80, kind, code.code] := by
  simp [replyPayload]

/-- R176, R188: a request that is taken does what its rule does, leaves the intake and is answered; `o` is the state
that the rule leaves, after which only the reply is put and a store write may begin. -/
theorem request_runs {c : Instr} {s : State} {p : Payload} {rest : List Payload} {kind : Byte}
    {f : Payload → State → State × Answered} {o : State} {a : Answered} {areas : List Area} {ids : List RecordId}
    (runs : exec c s = s.takeRequest kind f) (h : TakesRequest s p rest) (hk : p.headD 0 = kind)
    (rule : f p (s.taken rest) = (o, a)) (frame : OnlyChanges (s.taken rest) o areas) (keeps : .cell ∉ areas)
    (marks : JoinsMarks (s.taken rest) o ids) :
    ∃ t, exec c s = .next t ∧ OnlyChanges s t (.cell :: .marks :: areas) ∧ MarksOnly s t ids
      ∧ Replied t rest (replyPayload kind a.code a.data) ∧ OnlyChanges o t [.cell, .marks] := by
  let put : State := { o with cell := { o.cell with reply := some [replyPayload kind a.code a.data] } }
  have answer : exec c s = .next put.beginWrite := by
    rw [runs, takeRequest_taken h hk]
    change Host.Outcome.next (State.beginWrite _) = _
    rw [show f p { s with cell := { s.cell with intake := rest } } = (o, a) from rule]
  have replied : OnlyChanges o put [.cell] := by
    intro b hb; cases b <;> simp_all [SameArea, put]
  have after : OnlyChanges o put.beginWrite [.cell, .marks] :=
    (replied.mono (by simp)).trans ((beginWrite_onlyChanges put).mono (by simp))
  refine ⟨_, answer, ?_, ?_, ?_, after⟩
  · exact (((taken_onlyChanges s rest).mono (by simp)).trans (frame.mono (by simp))).trans (after.mono (by simp))
  · exact JoinsMarks.beginWrite (s := s) (t := put) marks
  · have intake : o.cell = (s.taken rest).cell := frame.cell keeps
    rw [Replied, (beginWrite_onlyChanges put).cell (by simp)]
    simp only [put, intake, State.taken]

/-- R19: a request that its checks turn away is answered with the code and changes nothing. -/
theorem refusal_runs {c : Instr} {s : State} {p : Payload} {rest : List Payload} {kind : Byte}
    {f : Payload → State → State × Answered} {code : ReplyCode}
    (runs : exec c s = s.takeRequest kind f) (h : TakesRequest s p rest) (hk : p.headD 0 = kind)
    (rule : f p (s.taken rest) = (s.taken rest).refuse code) :
    Runs c s fun t => OnlyChanges s t [.cell, .marks] ∧ MarksOnly s t [] ∧ Replied t rest [0x80, kind, code.code] := by
  obtain ⟨t, next, frame, marks, reply, -⟩ := request_runs runs h hk rule (.refl _ []) (by simp)
    ((OnlyChanges.refl _ []).joinsMarks (by simp))
  exact ⟨t, next, frame, marks, replyPayload_nil kind code ▸ reply⟩

end Sys2Proof.Machine
end

section
/-!
PROOFS. A tool that enters the store: the record that its life evaluation leaves, and what its pool makes of it, by
a request that writes the record (R14, R16, R119, R153).
-/

namespace Sys2Proof.Machine

/-! ### One record written twice, and its history (R187) -/

theorem putTool_tool_self (s : State) (u : ToolId) (x : ToolRecord) : (s.putTool u x).tool u = x := by
  rw [putTool_tool, if_pos rfl]

/-- Of two contents that a record takes in one step the second stands, where the second is no return to the old one. -/
theorem putTool_putTool {s : State} {u : ToolId} {x y : ToolRecord} (h : y = s.tool u → x = s.tool u) :
    (s.putTool u x).putTool u y = s.putTool u y := by
  by_cases hx : s.tool u = x
  · rw [← hx, putTool_self]
  · have hy : s.tool u ≠ y := fun e => hx (h e.symm).symm
    have first : s.putTool u x = ({ s with tools := s.tools.set u x }).mark (.tool u) := by
      rw [State.putTool, if_neg hx]
    by_cases hxy : x = y
    · subst hxy
      have again := putTool_self (s.putTool u x) u
      rwa [putTool_tool_self] at again
    · rw [State.putTool, if_neg (by rwa [putTool_tool_self]), first, State.putTool, if_neg hy]
      simp [State.mark]

theorem setHistory_putTool (s : State) (u v : ToolId) (h : List Verdict) (x : ToolRecord) :
    (s.setHistory v h).putTool u x = (s.putTool u x).setHistory v h := by
  unfold State.putTool
  rw [State.setHistory_tool]
  split <;> rfl

/-! ### The life evaluation of a tool that is not in service (R16, R17) -/

/-- The record that a life evaluation leaves of a tool that no role holds: FINAL, DRESS_DUE and LIFE_WARN follow its
figures, and no wear test applies. -/
def ToolRecord.evaluated (x : ToolRecord) : ToolRecord :=
  let y := x.finalTested.dressDueEvaluated
  { y with flags := { y.flags with lifeWarn := y.warns } }

theorem finalTested_eq (x : ToolRecord) :
    ∃ final, x.finalTested = { x with flags := { x.flags with final := final } } := by
  unfold ToolRecord.finalTested
  split
  · split
    · exact ⟨true, rfl⟩
    · exact ⟨x.flags.final, rfl⟩
  · exact ⟨x.flags.final, rfl⟩

theorem dressDueTested_eq (x : ToolRecord) :
    ∃ due, x.dressDueTested = { x with flags := { x.flags with dressDue := due } } := by
  unfold ToolRecord.dressDueTested
  split
  · split
    · exact ⟨true, rfl⟩
    · exact ⟨x.flags.dressDue, rfl⟩
  · exact ⟨x.flags.dressDue, rfl⟩

theorem dressDueEvaluated_eq (x : ToolRecord) :
    ∃ due, x.dressDueEvaluated = { x with flags := { x.flags with dressDue := due } } := by
  unfold ToolRecord.dressDueEvaluated
  split
  · split
    · exact ⟨false, rfl⟩
    · exact dressDueTested_eq x
  · exact ⟨x.flags.dressDue, rfl⟩

theorem dressDueEvaluated_finalTested_eq (x : ToolRecord) : ∃ final due,
    x.finalTested.dressDueEvaluated = { x with flags := { x.flags with final := final, dressDue := due } } := by
  obtain ⟨final, h⟩ := finalTested_eq x
  obtain ⟨due, g⟩ := dressDueEvaluated_eq x.finalTested
  exact ⟨final, due, by rw [g, h]⟩

theorem evaluated_eq (x : ToolRecord) : ∃ final due warn,
    x.evaluated = { x with flags := { x.flags with final := final, dressDue := due, lifeWarn := warn } } := by
  obtain ⟨final, due, h⟩ := dressDueEvaluated_finalTested_eq x
  exact ⟨final, due, _, by rw [ToolRecord.evaluated, h]⟩

theorem evaluateWarn_unlinked {s : State} {u : ToolId} (h : (s.tool u).link = none) :
    s.evaluateWarn u
      = s.putTool u { s.tool u with flags := { (s.tool u).flags with lifeWarn := (s.tool u).warns } } := by
  unfold State.evaluateWarn
  by_cases warns : (s.tool u).warns = true
  · cases old : (s.tool u).flags.lifeWarn with
    | false => simp [State.warnTool, warns, old, h]
    | true =>
      have same : { s.tool u with flags := { (s.tool u).flags with lifeWarn := true } } = s.tool u := by
        rw [← old]
      simp [State.warnTool, warns, old, same, putTool_self]
  · simp [warns]

/-- R16, R17: the life evaluation of a tool that is not ACTIVE and that no role holds writes its record alone. -/
theorem evaluateLife_unlinked {s : State} {u : ToolId} (h : (s.tool u).link = none)
    (out : (s.tool u).state ≠ .active) : s.evaluateLife u = s.putTool u (s.tool u).evaluated := by
  obtain ⟨final, due, figures⟩ := dressDueEvaluated_finalTested_eq (s.tool u)
  have warned : (s.putTool u (s.tool u).finalTested.dressDueEvaluated).evaluateWarn u
      = s.putTool u (s.tool u).evaluated := by
    rw [evaluateWarn_unlinked (by rw [putTool_tool_self, figures, h]), putTool_tool_self]
    refine putTool_putTool fun e => ?_
    rw [figures] at e ⊢
    have keepsFinal : final = (s.tool u).flags.final := congrArg (fun x => x.flags.final) e
    have keepsDue : due = (s.tool u).flags.dressDue := congrArg (fun x => x.flags.dressDue) e
    rw [keepsFinal, keepsDue]
  have idle : (s.tool u).evaluated.state ≠ .active := by
    obtain ⟨final, due, warn, e⟩ := evaluated_eq (s.tool u)
    rwa [e]
  have unworn : (s.tool u).evaluated.wearTested = (s.tool u).evaluated := by simp [ToolRecord.wearTested, idle]
  rw [State.evaluateLife, warned, putTool_tool_self, unworn, State.putWorn]
  simp only [putTool_tool_self, idle, false_and, if_false]
  exact putTool_putTool fun e => e

end Sys2Proof.Machine
end

section
/-!
PROOFS. A tool that enters the store is handed to its pool: what a serving writes, and what a request does that
writes a record and hands it on (R14, R119, R153).
-/

namespace Sys2Proof.Machine

/-! ### A serving (R119, R153) -/

theorem noticeIfOrdered_mem {s : State} {n : StationId} {o : Order} (h : (s.station n).swap.order = some o)
    (ordered : o.state = .ordered) : ⟨n, .swapOrder⟩ ∈ (s.noticeIfOrdered n).notices := by
  simp only [State.noticeIfOrdered, h, ordered, if_true]
  exact queueNotice_mem s n .swapOrder

theorem noticeIfOrdered_eq {s : State} {n : StationId}
    (h : ∀ o, (s.station n).swap.order = some o → o.state ≠ .ordered) : s.noticeIfOrdered n = s := by
  unfold State.noticeIfOrdered
  split
  next o order => rw [if_neg (h o order)]
  next => rfl

/-- The state at a serving before its report. -/
def State.handed (s : State) (q : PoolId) (u : ToolId) (r : RoleId) : State :=
  ((s.setPool q ((s.pool q).filter fun y => y != r)).reserve u r).mapEntries r.station
    (entriesAt r.pos (Entry.served u))

theorem serve_eq (s : State) (q : PoolId) (u : ToolId) (r : RoleId) :
    s.serve q u r = (s.handed q u r).noticeIfOrdered r.station := rfl

section
variable (s : State) (q : PoolId) (u : ToolId) (r : RoleId)

theorem serve_tool (v : ToolId) :
    (s.serve q u r).tool v = if v = u then (s.tool u).reservedFor r else s.tool v := by
  rw [serve_eq, (noticeIfOrdered_onlyChanges _ _).tool (by simp)]
  simp [State.handed, State.reserve, putTool_tool]

theorem serve_history (v : ToolId) : (s.serve q u r).history v = s.history v :=
  (serve_onlyChanges s q u r).history (by simp) v

theorem serve_role (x : RoleId) :
    (s.serve q u r).role x = if x = r then { s.role r with state := .reserved } else s.role x := by
  rw [serve_eq, (noticeIfOrdered_onlyChanges _ _).role (by simp)]
  simp [State.handed, State.reserve, (putTool_onlyChanges _ _ _).role]

theorem serve_pool (x : PoolId) :
    (s.serve q u r).pool x = if x = q then (s.pool q).filter (fun y => y != r) else s.pool x := by
  rw [serve_eq, (noticeIfOrdered_onlyChanges _ _).pool (by simp)]
  simp [State.handed, State.reserve, (putTool_onlyChanges _ _ _).pool]

theorem handed_station (n : StationId) : (s.handed q u r).station n =
    if n = r.station then { s.station n with swap := { (s.station n).swap with
      order := (s.station n).swap.order.map fun o =>
        { o with entries := entriesAt r.pos (Entry.served u) o.entries } } }
    else s.station n := by
  have kept (m : StationId) : ((s.setPool q ((s.pool q).filter fun y => y != r)).reserve u r).station m
      = s.station m := by
    rw [(reserve_onlyChanges _ u r).station (by simp), State.setPool_station]
  rw [State.handed, State.mapEntries_station, kept, kept]
  split
  next e => rw [e]
  next => rfl

theorem handed_notices : (s.handed q u r).notices = s.notices := by
  rw [State.handed, State.mapEntries_notices, (reserve_onlyChanges _ u r).notices (by simp), State.setPool_notices]

theorem serve_station (n : StationId) : (s.serve q u r).station n = (s.handed q u r).station n :=
  (noticeIfOrdered_onlyChanges _ _).station (by simp) n

end

/-- R187: a serving marks the served tool alone. -/
theorem serve_joinsMarks {s : State} {u : ToolId} (stored : (s.tool u).state = .stored) (q : PoolId) (r : RoleId) :
    JoinsMarks s (s.serve q u r) [.tool u] := by
  have changes : (s.tool u).reservedFor r ≠ s.tool u :=
    ne_of_apply_ne ToolRecord.state (by simp [ToolRecord.reservedFor, stored])
  have reserved : JoinsMarks s (s.handed q u r) [.tool u] :=
    putTool_joinsMarks (s := s.setPool q ((s.pool q).filter fun y => y != r)) changes
  exact reserved.trans ((noticeIfOrdered_onlyChanges _ r.station).joinsMarks (by simp)) (by simp)

/-- R119, R153: the role that a stored tool goes to is served with it. -/
theorem serve_servedTo {s : State} {u : ToolId} {q : PoolId} {before : List RoleId} {r : RoleId}
    {after : List RoleId} (h : GoesTo s (s.tool u) q before r after) :
    ServedTo s (s.serve q u r) u (s.tool u) q before r after := by
  obtain ⟨-, -, queue, older, fits, once⟩ := h
  have left : (s.pool q).filter (fun y => y != r) = before ++ after := by
    have first : ∀ y ∈ before, (y != r) = true := fun y hy => by
      simpa using fun e : y = r => older y hy (e ▸ fits)
    have rest : ∀ y ∈ after, (y != r) = true := fun y hy => by
      simpa using fun e : y = r => once (e ▸ hy)
    rw [queue, List.filter_append, List.filter_cons_of_neg (by simp), List.filter_eq_self.2 first,
      List.filter_eq_self.2 rest]
  have orders := congrArg (fun x : Station => x.swap.order) (handed_station s q u r r.station)
  simp only [if_true] at orders
  unfold ServedTo
  rw [serve_tool, serve_role, serve_pool, serve_station]
  refine ⟨if_pos rfl, if_pos rfl, (if_pos rfl).trans left, ?_, ?_, ?_, ?_, fun o order => ⟨?_, fun ordered => ?_,
    fun deferred => ?_⟩, fun order => ⟨?_, ?_⟩⟩
  · simp [handed_station]
  · simp [handed_station]
  · simp [handed_station]
  · simp [handed_station]
  · rw [orders, order]; rfl
  · rw [serve_eq]
    exact noticeIfOrdered_mem (orders.trans (congrArg (Option.map _) order)) ordered
  · rw [serve_eq, noticeIfOrdered_eq, handed_notices]
    simp [orders, order, deferred]
  · rw [orders, order]; rfl
  · rw [serve_eq, noticeIfOrdered_eq, handed_notices]
    simp [orders, order]

theorem serve_onlyTools (s : State) (q : PoolId) (u : ToolId) (r : RoleId) : OnlyTools s (s.serve q u r) [u] := by
  intro v hv
  rw [serve_tool, if_neg (by simpa using hv)]

theorem serve_onlyRoles (s : State) (q : PoolId) (u : ToolId) (r : RoleId) : OnlyRoles s (s.serve q u r) [r] := by
  intro v hv
  rw [serve_role, if_neg (by simpa using hv)]

theorem serve_onlyPools (s : State) (q : PoolId) (u : ToolId) (r : RoleId) : OnlyPools s (s.serve q u r) [q] := by
  intro v hv
  rw [serve_pool, if_neg (by simpa using hv)]

theorem serve_onlyStations (s : State) (q : PoolId) (u : ToolId) (r : RoleId) :
    OnlyStations s (s.serve q u r) [r.station] := by
  intro n hn
  rw [serve_station, handed_station, if_neg (by simpa using hn)]

/-! ### A record that is written with an empty history -/

/-- The tool takes the record `x`, its history cleared (R20 to R22). -/
def State.recorded (s : State) (u : ToolId) (x : ToolRecord) : State := (s.putTool u x).setHistory u []

section
variable (s : State) (u : ToolId) (x : ToolRecord)

theorem recorded_tool (v : ToolId) : (s.recorded u x).tool v = if v = u then x else s.tool v :=
  putTool_tool s u v x

theorem recorded_tool_self : (s.recorded u x).tool u = x := putTool_tool_self s u x

theorem recorded_history (v : ToolId) : (s.recorded u x).history v = if v = u then [] else s.history v := by
  rw [State.recorded, State.setHistory_history, (putTool_onlyChanges s u x).history (by simp)]

theorem recorded_onlyChanges : OnlyChanges s (s.recorded u x) [.tools, .histories, .marks] :=
  ((putTool_onlyChanges s u x).mono (by simp)).trans ((setHistory_onlyChanges _ u []).mono (by simp))

end

theorem recorded_joinsMarks {s : State} {u : ToolId} {x : ToolRecord} (h : x ≠ s.tool u) :
    JoinsMarks s (s.recorded u x) [.tool u] :=
  putTool_joinsMarks h

/-! ### Whom a tool serves, in two states with the same roles and queues -/

theorem NotServed.of_frame {s t : State} {as : List Area} {x : ToolRecord} (h : NotServed s x)
    (frame : OnlyChanges s t as) (roles : .roles ∉ as) (pools : .pools ∉ as) : NotServed t x := by
  simpa only [NotServed, FitsRole, frame.role roles, frame.pool pools] using h

theorem GoesTo.of_frame {s t : State} {as : List Area} {x : ToolRecord} {q : PoolId} {before : List RoleId}
    {r : RoleId} {after : List RoleId} (h : GoesTo s x q before r after)
    (frame : OnlyChanges s t as) (roles : .roles ∉ as) (pools : .pools ∉ as) : GoesTo t x q before r after := by
  simpa only [GoesTo, FitsRole, frame.role roles, frame.pool pools] using h

/-- A serving between two states is one between states around them that differ from them where no serving is read. -/
theorem ServedTo.of_frames {s s' t' t : State} {u : ToolId} {x : ToolRecord} {q : PoolId} {before : List RoleId}
    {r : RoleId} {after : List RoleId} (h : ServedTo s' t' u x q before r after)
    (first : OnlyChanges s s' [.tools, .histories, .cell, .marks]) (last : OnlyChanges t' t [.cell, .marks]) :
    ServedTo s t u x q before r after := by
  simpa only [ServedTo, last.tool (by simp) u, last.role (by simp) r, last.pool (by simp) q,
    last.station (by simp) r.station, last.notices (by simp), first.role (by simp) r,
    first.station (by simp) r.station, first.notices (by simp)] using h

/-! ### Requests that write a record (R20 to R22) -/

section
variable {c : Instr} {s : State} {p : Payload} {rest : List Payload} {kind : Byte}
  {f : Payload → State → State × Answered} {u : ToolId} {x : ToolRecord}

/-- A request whose rule writes one new record with an empty history. -/
theorem recorded_runs (runs : exec c s = s.takeRequest kind f) (h : TakesRequest s p rest) (hk : p.headD 0 = kind)
    (rule : f p (s.taken rest) = ((s.taken rest).recorded u x, .ok)) (new : x ≠ s.tool u) :
    Runs c s fun t =>
      OnlyChanges s t [.tools, .histories, .cell, .marks] ∧ OnlyTools s t [u] ∧ OnlyHistories s t [u]
      ∧ MarksOnly s t [.tool u] ∧ Replied t rest [0x80, kind, 0x00] ∧ t.history u = [] ∧ t.tool u = x := by
  obtain ⟨t, next, frame, marks, reply, after⟩ :=
    request_runs runs h hk rule (recorded_onlyChanges _ u x) (by simp) (recorded_joinsMarks new)
  have tool (v : ToolId) : t.tool v = if v = u then x else s.tool v :=
    (after.tool (by simp) v).trans (recorded_tool _ u x v)
  have history (v : ToolId) : t.history v = if v = u then [] else s.history v :=
    (after.history (by simp) v).trans (recorded_history _ u x v)
  refine ⟨t, next, frame.mono (by simp), fun v hv => ?_, fun v hv => ?_, marks, replyPayload_nil kind .done ▸ reply,
    ?_, ?_⟩
  · rw [tool, if_neg (by simpa using hv)]
  · rw [history, if_neg (by simpa using hv)]
  · rw [history, if_pos rfl]
  · rw [tool, if_pos rfl]

/-- R14: a request whose rule writes one new record of a stored tool and hands the tool to its pool, where no role
takes it. -/
theorem stocked_runs_notServed (runs : exec c s = s.takeRequest kind f) (h : TakesRequest s p rest)
    (hk : p.headD 0 = kind) (rule : f p (s.taken rest) = (((s.taken rest).recorded u x).offer u, .ok))
    (new : x ≠ s.tool u) (out : NotServed s x) :
    Runs c s fun t =>
      OnlyChanges s t [.tools, .histories, .cell, .marks] ∧ OnlyTools s t [u] ∧ OnlyHistories s t [u]
      ∧ MarksOnly s t [.tool u] ∧ Replied t rest [0x80, kind, 0x00] ∧ t.history u = [] ∧ t.tool u = x := by
  have stays : ((s.taken rest).recorded u x).offer u = (s.taken rest).recorded u x := by
    refine offer_notServed ?_
    rw [recorded_tool_self]
    exact (out.of_frame (taken_onlyChanges s rest) (by simp) (by simp)).of_frame (recorded_onlyChanges _ u x)
      (by simp) (by simp)
  exact recorded_runs runs h hk (by rw [rule, stays]) new

/-- R14, R119, R153: a request whose rule writes one new record of a stored tool and hands the tool to its pool, where
a waiting role takes it. -/
theorem stocked_runs_goesTo (runs : exec c s = s.takeRequest kind f) (h : TakesRequest s p rest)
    (hk : p.headD 0 = kind) (rule : f p (s.taken rest) = (((s.taken rest).recorded u x).offer u, .ok))
    (new : x ≠ s.tool u) (stored : x.state = .stored) {q : PoolId} {before : List RoleId} {r : RoleId}
    {after : List RoleId} (goes : GoesTo s x q before r after) :
    Runs c s fun t =>
      OnlyChanges s t [.tools, .histories, .roles, .pools, .stations, .notices, .cell, .marks]
      ∧ OnlyTools s t [u] ∧ OnlyHistories s t [u] ∧ OnlyRoles s t [r] ∧ OnlyPools s t [q]
      ∧ OnlyStations s t [r.station] ∧ MarksOnly s t [.tool u] ∧ Replied t rest [0x80, kind, 0x00]
      ∧ t.history u = [] ∧ ServedTo s t u x q before r after := by
  let mid := (s.taken rest).recorded u x
  have wrote : OnlyChanges (s.taken rest) mid [.tools, .histories, .marks] := recorded_onlyChanges _ u x
  have joined : JoinsMarks (s.taken rest) mid [.tool u] := recorded_joinsMarks new
  have first : OnlyChanges s mid [.tools, .histories, .cell, .marks] :=
    ((taken_onlyChanges s rest).mono (by simp)).trans (wrote.mono (by simp))
  have read : mid.tool u = x := recorded_tool_self _ u x
  have goes' : GoesTo mid (mid.tool u) q before r after := read ▸ goes.of_frame first (by simp) (by simp)
  have stored' : (mid.tool u).state = .stored := by rw [read, stored]
  have rule' : f p (s.taken rest) = (mid.serve q u r, .ok) := by rw [rule, offer_goesTo goes' stored']
  obtain ⟨t, next, frame, marks, reply, last⟩ := request_runs runs h hk rule'
    (areas := [.tools, .histories, .roles, .pools, .stations, .notices, .marks])
    ((wrote.mono (by simp)).trans ((serve_onlyChanges mid q u r).mono (by simp))) (by simp)
    (joined.trans (serve_joinsMarks stored' q r) (by simp))
  have served : ServedTo mid (mid.serve q u r) u x q before r after := read ▸ serve_servedTo goes'
  refine ⟨t, next, frame.mono (by simp), fun v hv => ?_, fun v hv => ?_, fun y hy => ?_, fun y hy => ?_,
    fun n hn => ?_, marks, replyPayload_nil kind .done ▸ reply, ?_, served.of_frames first last⟩
  · rw [last.tool (by simp), serve_onlyTools mid q u r v hv, recorded_tool, if_neg (by simpa using hv)]; rfl
  · rw [last.history (by simp), serve_history, recorded_history, if_neg (by simpa using hv)]; rfl
  · rw [last.role (by simp), serve_onlyRoles mid q u r y hy, first.role (by simp)]
  · rw [last.pool (by simp), serve_onlyPools mid q u r y hy, first.pool (by simp)]
  · rw [last.station (by simp), serve_onlyStations mid q u r n hn, first.station (by simp)]
  · rw [last.history (by simp), serve_history, recorded_history, if_pos rfl]

end

end Sys2Proof.Machine
end

section
/-!
PROOFS. Tool Recondition and Tool Remove (R21, R22): the outcome of each rule, case by case, and the statement
about both.
-/

namespace Sys2Proof.Machine

/-! ### The named tool (R19) -/

theorem toolOf_num (u : ToolId) : toolOf (u.val + 1) = some u := by
  have range : 1 ≤ u.val + 1 ∧ u.val + 1 ≤ 64 := by omega
  simp [toolOf, range]

/-- R19: a request of the right length that names the tool `u` is answered by the rule for `u`. -/
theorem withTool_named {s : State} {p : Payload} {len : Nat} {u : ToolId} (length : p.length = len)
    (named : field p 1 1 = u.val + 1) (f : ToolId → State × Answered) : s.withTool p len f = f u := by
  simp [State.withTool, length, named, toolOf_num]

/-- A request of two bytes names the tool whose number its second byte is. -/
theorem field_toolNumber (kind : Byte) (u : ToolId) : field [kind, BitVec.ofNat 8 (u.val + 1)] 1 1 = u.val + 1 := by
  have small : (u.val + 1) % 256 = u.val + 1 := by omega
  simp [field, leNat, small]

/-! ### Tool Recondition (R21) -/

/-- The diameters that Tool Recondition takes (R4, R21). -/
abbrev diametersInRange (p : Payload) : Prop :=
  50000 ≤ field p 2 4 ∧ field p 2 4 ≤ 1200000 ∧ 40000 ≤ field p 6 4 ∧ field p 6 4 < field p 2 4

section
variable {s : State} {p : Payload} {u : ToolId}

theorem toolRecondition_wrongState (length : p.length = 10) (named : field p 1 1 = u.val + 1)
    (h : (s.tool u).state ≠ .retired ∨ (s.tool u).flags.breakMark = true) :
    s.toolRecondition p = s.refuse .wrongState := by
  rw [State.toolRecondition, withTool_named length named]
  exact if_pos h

theorem toolRecondition_badValue (length : p.length = 10) (named : field p 1 1 = u.val + 1)
    (retired : (s.tool u).state = .retired) (unmarked : (s.tool u).flags.breakMark = false)
    (h : (∀ w, (s.tool u).life ≠ .wheel w) ∨ ¬ diametersInRange p) :
    s.toolRecondition p = s.refuse .badValue := by
  rw [State.toolRecondition, withTool_named length named]
  simp only [retired, unmarked, ne_eq, not_true_eq_false, Bool.false_eq_true, or_self, if_false]
  split
  next w wheel =>
    exact if_neg (h.resolve_left fun none => none w wheel)
  next => rfl

end

/-- R21: the record of a renewed wheel, its figures drawn from the dresses its new diameters leave. -/
def renewed (x : ToolRecord) (w : WheelLife) (dNew dMin : Nat) : ToolRecord :=
  let left := (dNew - dMin) / ((w.dressStep + 4) / 5)
  { x with
    state := .stored
    life := .wheel { w with dNew := dNew, dMin := dMin, dNow := dNew }
    recond := min 255 (x.recond + 1)
    acc := { x.acc with wd := 0, partsSinceDress := 0, avg := 0, dressCount := 0 }
    flags := { x.flags with
      final := decide (left = 0), lifeWarn := decide (left ≤ w.warnDresses), undersize := false,
      depthClamped := false, overdue := false, dressDue := false }
    trip := none }

theorem renewed_ne {x : ToolRecord} (retired : x.state = .retired) (w : WheelLife) (dNew dMin : Nat) :
    renewed x w dNew dMin ≠ x :=
  ne_of_apply_ne ToolRecord.state (by simp [renewed, retired])

/-- R16, R17, R38: the life evaluation of a reconditioned wheel. -/
theorem evaluated_reconditioned {x : ToolRecord} {w : WheelLife} {dNew dMin : Nat} (limit : 1 ≤ w.dressLimit)
    (order : dMin < dNew) : (reconditioned x w dNew dMin).evaluated = renewed x w dNew dMin := by
  have dresses : remainingDresses dNew dMin w.dressStep = (dNew - dMin) / ((w.dressStep + 4) / 5) := by
    rw [remainingDresses, if_neg (by omega)]; rfl
  have below : 0 < w.dressLimit := limit
  by_cases last : (dNew - dMin) / ((w.dressStep + 4) / 5) = 0 <;>
    simp [ToolRecord.evaluated, ToolRecord.finalTested, ToolRecord.dressDueEvaluated, ToolRecord.remaining,
      ToolRecord.warns, reconditioned, renewed, dresses, below, last, satAdd]

/-- R21: an accepted Tool Recondition writes the renewed wheel's record, once, and hands the tool to its pool. -/
theorem reconditionTool_eq {s : State} {u : ToolId} {w : WheelLife} {dNew dMin : Nat}
    (retired : (s.tool u).state = .retired) (unlinked : (s.tool u).link = none) (limit : 1 ≤ w.dressLimit)
    (order : dMin < dNew) :
    s.reconditionTool u w dNew dMin = (s.recorded u (renewed (s.tool u) w dNew dMin)).offer u := by
  let x := reconditioned (s.tool u) w dNew dMin
  have read : (s.recorded u x).tool u = x := recorded_tool_self s u x
  have evaluation : (s.recorded u x).evaluateLife u = s.recorded u (renewed (s.tool u) w dNew dMin) := by
    rw [evaluateLife_unlinked (by rw [read]; exact unlinked) (by rw [read]; exact nofun), read,
      evaluated_reconditioned limit order, State.recorded, setHistory_putTool, putTool_putTool]
    · rfl
    · exact fun same => absurd same (renewed_ne retired w dNew dMin)
  exact congrArg (State.offer · u) evaluation

theorem toolRecondition_accepted {s : State} {p : Payload} {u : ToolId} (length : p.length = 10)
    (named : field p 1 1 = u.val + 1) (retired : (s.tool u).state = .retired)
    (unmarked : (s.tool u).flags.breakMark = false) {w : WheelLife} (wheel : (s.tool u).life = .wheel w)
    (unlinked : (s.tool u).link = none) (limit : 1 ≤ w.dressLimit) (range : diametersInRange p) :
    s.toolRecondition p
      = ((s.recorded u (renewed (s.tool u) w (field p 2 4) (field p 6 4))).offer u, .ok) := by
  rw [State.toolRecondition, withTool_named length named,
    ← reconditionTool_eq retired unlinked limit range.2.2.2]
  simp only [retired, unmarked, wheel, ne_eq, not_true_eq_false, Bool.false_eq_true, or_self, if_false]
  exact if_pos range

/-! ### Tool Remove (R22) -/

section
variable {s : State} {u : ToolId}

theorem toolRemove_accepted (h : (s.tool u).state = .stored ∨ (s.tool u).state = .retired) :
    s.toolRemove [0x12, BitVec.ofNat 8 (u.val + 1)] = (s.recorded u .vacant, .ok) := by
  rw [State.toolRemove, withTool_named (len := 2) rfl (field_toolNumber 0x12 u)]
  rcases h with h | h <;> simp only [h, State.recorded]

theorem toolRemove_notDefined (h : (s.tool u).state = .vacant) :
    s.toolRemove [0x12, BitVec.ofNat 8 (u.val + 1)] = s.refuse .notDefined := by
  rw [State.toolRemove, withTool_named (len := 2) rfl (field_toolNumber 0x12 u)]
  simp only [h]

theorem toolRemove_inUse (h : (s.tool u).state = .reserved ∨ (s.tool u).state = .active
      ∨ (s.tool u).state = .worn ∨ (s.tool u).state = .broken) :
    s.toolRemove [0x12, BitVec.ofNat 8 (u.val + 1)] = s.refuse .inUse := by
  rw [State.toolRemove, withTool_named (len := 2) rfl (field_toolNumber 0x12 u)]
  rcases h with h | h | h | h <;> simp only [h]

end

/-! ### The statement -/

theorem exec_toolRecondition (s : State) :
    exec .toolRecondition s = s.takeRequest 0x11 fun p s => s.toolRecondition p := rfl

theorem exec_toolRemove (s : State) : exec .toolRemove s = s.takeRequest 0x12 fun p s => s.toolRemove p := rfl

/-- Settles O42: each clause is one outcome of a rule, put through what a request of that outcome does. -/
theorem reconditionAndRemove : Obligations.ReconditionAndRemove := by
  refine ⟨fun u p rest s h kind length named => ⟨fun turned => ?_, fun retired unmarked turned => ?_,
    fun w retired unmarked wheel unlinked limit range => ?_⟩, fun u rest s h => ⟨fun kept => ?_, fun vacant => ?_,
    fun used => ?_⟩⟩
  · exact refusal_runs (exec_toolRecondition s) h kind (toolRecondition_wrongState length named turned)
  · exact refusal_runs (exec_toolRecondition s) h kind
      (toolRecondition_badValue length named retired unmarked turned)
  · have rule : (s.taken rest).toolRecondition p
        = (((s.taken rest).recorded u (renewed (s.tool u) w (field p 2 4) (field p 6 4))).offer u, .ok) :=
      toolRecondition_accepted (s := s.taken rest) length named retired unmarked wheel unlinked limit range
    have new := renewed_ne retired w (field p 2 4) (field p 6 4)
    exact ⟨stocked_runs_notServed (exec_toolRecondition s) h kind rule new,
      fun q before r after => stocked_runs_goesTo (exec_toolRecondition s) h kind rule new rfl⟩
  · have new : ToolRecord.vacant ≠ s.tool u :=
      ne_of_apply_ne ToolRecord.state (by rcases kept with kept | kept <;> simp [ToolRecord.vacant, kept])
    obtain ⟨t, next, frame, tools, histories, marks, reply, history, tool⟩ :=
      recorded_runs (exec_toolRemove s) h rfl (toolRemove_accepted kept) new
    exact ⟨t, next, frame, tools, histories, marks, reply, tool, history⟩
  · exact refusal_runs (exec_toolRemove s) h rfl (toolRemove_notDefined vacant)
  · exact refusal_runs (exec_toolRemove s) h rfl (toolRemove_inUse used)

end Sys2Proof.Machine
end

section
/-!
PROOFS. A plan step on the wire: the 11 bytes that spell one are read back as it, and a step is read only from bytes
whose every field lies in its range (R46, R53, R178).
-/

namespace Sys2Proof.Machine

/-! ### All readings or none -/

section
variable {α β : Type} {f : α → Option β}

theorem mapM_eq_some_iff {xs : List α} {ys : List β} : xs.mapM f = some ys ↔ xs.map f = ys.map some := by
  induction xs generalizing ys with
  | nil => cases ys <;> simp
  | cons x xs ih =>
    cases ys with
    | nil => simp [Option.bind_eq_some_iff]
    | cons y ys => simp [Option.bind_eq_some_iff, ih]

theorem mapM_eq_none_iff {xs : List α} : xs.mapM f = none ↔ ∃ x ∈ xs, f x = none := by
  induction xs with
  | nil => simp
  | cons x xs ih =>
    cases first : f x with
    | none => simp [first]
    | some y =>
      cases rest : xs.mapM f <;> simp [first, rest, ← ih]

end

/-! ### One step read (R46) -/

theorem field_drop (p : Payload) (off at' size : Nat) : field (p.drop off) at' size = field p (off + at') size := by
  rw [field, field, List.drop_drop]

theorem wheelPosOf_val {q : Pos} (wheel : q ≠ 0) : wheelPosOf q.val = some q := by
  have named : q.val ≠ 0 := fun e => wheel (Fin.ext e)
  simp [wheelPosOf, posOf, named]

theorem wheelPosOf_range {k : Nat} {q : Pos} (h : wheelPosOf k = some q) : 1 ≤ k ∧ k ≤ 4 := by
  simp only [wheelPosOf, posOf, Option.ite_none_left_eq_some, Option.dite_none_right_eq_some] at h
  obtain ⟨nonzero, small, -⟩ := h
  omega

theorem stepKindOfCode_code (k : StepKind) : stepKindOfCode k.code = some k := by
  cases k <;> rfl

theorem stepKindOfCode_range {k : Nat} {x : StepKind} (h : stepKindOfCode k = some x) : 1 ≤ k ∧ k ≤ 3 := by
  by_contra out
  have none : stepKindOfCode k = none := by
    rw [stepKindOfCode, if_neg (by omega), if_neg (by omega), if_neg (by omega)]
  simp [none] at h

/-- The ranges of the fields of the plan step at offset `off` (R46). -/
abbrev stepInRange (p : Payload) (off : Nat) : Prop :=
  1 ≤ field p off 1 ∧ field p off 1 ≤ 4 ∧ 1 ≤ field p (off + 1) 1 ∧ field p (off + 1) 1 ≤ 15
    ∧ 1 ≤ field p (off + 2) 1 ∧ field p (off + 2) 1 ≤ 3 ∧ field p (off + 3) 2 ≤ 4000
    ∧ 1 ≤ field p (off + 5) 2 ∧ 1 ≤ field p (off + 7) 2 ∧ field p (off + 7) 2 ≤ 2000
    ∧ field p (off + 9) 2 < field p (off + 7) 2

theorem parseStep_range {p : Payload} {off : Nat} {x : PlanStep} (h : parseStep p off = some x) :
    stepInRange p off := by
  unfold parseStep at h
  split at h
  next pos kind =>
    obtain ⟨⟨journalLo, journalHi, cost, expected, peakLo, peakHi, order⟩, -⟩ :=
      Option.ite_none_right_eq_some.1 h
    obtain ⟨posLo, posHi⟩ := wheelPosOf_range pos
    obtain ⟨kindLo, kindHi⟩ := stepKindOfCode_range kind
    exact ⟨posLo, posHi, journalLo, journalHi, kindLo, kindHi, cost, expected, peakLo, peakHi, order⟩
  next => cases h

theorem parseStep_drop (p : Payload) (off : Nat) : parseStep (p.drop off) 0 = parseStep p off := by
  simp only [parseStep, field_drop, Nat.zero_add, Nat.add_zero]

/-- The values of a plan step that lie in the ranges of R46. -/
abbrev PlanStep.inRange (x : PlanStep) : Prop :=
  x.pos ≠ 0 ∧ 1 ≤ x.journal ∧ x.journal ≤ 15 ∧ x.baseCost ≤ 4000 ∧ 1 ≤ x.eExp ∧ x.eExp ≤ 65535
    ∧ 1 ≤ x.peakHi ∧ x.peakHi ≤ 2000 ∧ x.peakLo < x.peakHi

theorem stepBytes_length (x : PlanStep) : (stepBytes x).length = 11 := rfl

/-- The fields of a plan step lie at these offsets, each with the number that it spells (R178). -/
theorem stepBytes_fields {x : PlanStep} (h : x.inRange) (after : List Byte) :
    let p := stepBytes x ++ after
    field p 0 1 = x.pos.val ∧ field p 1 1 = x.journal ∧ field p 2 1 = x.kind.code ∧ field p 3 2 = x.baseCost
      ∧ field p 5 2 = x.eExp ∧ field p 7 2 = x.peakHi ∧ field p 9 2 = x.peakLo := by
  obtain ⟨-, -, journal, cost, -, expected, -, peakHi, peakLo⟩ := h
  have code : x.kind.code < 256 := by cases x.kind <;> decide
  simp [stepBytes, le, field, leNat]
  omega

/-- A step in the ranges of R46 is read back from the bytes that spell it. -/
theorem parseStep_stepBytes {x : PlanStep} (h : x.inRange) (after : List Byte) :
    parseStep (stepBytes x ++ after) 0 = some x := by
  obtain ⟨pos, journal, kind, cost, expected, peakHi, peakLo⟩ := stepBytes_fields h after
  obtain ⟨wheel, journalLo, journalHi, costHi, expectedLo, -, peakHiLo, peakHiHi, order⟩ := h
  simp only [parseStep, Nat.zero_add, pos, journal, kind, cost, expected, peakHi, peakLo, wheelPosOf_val wheel,
    stepKindOfCode_code]
  exact if_pos ⟨journalLo, journalHi, costHi, expectedLo, peakHiLo, peakHiHi, order⟩

/-! ### The steps of a payload (R53) -/

/-- In the bytes of several steps each stands 11 bytes after the one before it. -/
theorem drop_flatMap_stepBytes (xs : List PlanStep) (i : Nat) :
    (xs.flatMap stepBytes).drop (11 * i) = (xs.drop i).flatMap stepBytes := by
  induction i generalizing xs with
  | zero => rfl
  | succ i ih =>
    cases xs with
    | nil => simp
    | cons x xs =>
      rw [List.flatMap_cons, Nat.mul_succ, Nat.add_comm, ← List.drop_drop, List.drop_left' (stepBytes_length x), ih]
      rfl

/-- The steps of a payload are read back from the bytes that spell them. -/
theorem parseSteps_flatMap {p : Payload} {xs : List PlanStep} (count : field p 3 1 = xs.length)
    (body : p.drop 4 = xs.flatMap stepBytes) (ranges : ∀ x ∈ xs, x.inRange) : parseSteps p = some xs := by
  rw [parseSteps, mapM_eq_some_iff, count]
  refine List.ext_getElem (by simp) fun i small _ => ?_
  have inside : i < xs.length := by simpa using small
  have bytes : p.drop (4 + 11 * i) = stepBytes xs[i] ++ (xs.drop (i + 1)).flatMap stepBytes := by
    rw [← List.drop_drop, body, drop_flatMap_stepBytes, List.drop_eq_getElem_cons inside, List.flatMap_cons]
  simp only [List.getElem_map, List.getElem_range]
  rw [← parseStep_drop, bytes, parseStep_stepBytes (ranges _ (List.getElem_mem inside))]

/-- R53: of a payload with a step out of its range no step is read. -/
theorem parseSteps_eq_none {p : Payload} (h : ∃ i < field p 3 1, ¬ stepInRange p (4 + 11 * i)) :
    parseSteps p = none := by
  obtain ⟨i, inside, out⟩ := h
  refine mapM_eq_none_iff.2 ⟨i, List.mem_range.2 inside, ?_⟩
  exact Option.eq_none_iff_forall_ne_some.2 fun x read => out (parseStep_range read)

end Sys2Proof.Machine
end

section
/-!
PROOFS. Plan Begin, Plan Steps and Plan Drop (R51 to R56): what a request does that writes the staged slot, the outcome
of each rule, case by case, and the statement about all three.
-/

namespace Sys2Proof.Machine

/-! ### The named station (R51, R132) -/

theorem stationOf_num (n : StationId) : stationOf (n.val + 1) = some n := by
  have range : 1 ≤ n.val + 1 ∧ n.val + 1 ≤ 8 := by omega
  simp [stationOf, range]

/-- R51: a request of the right length that names the station `n` is answered by the rule for `n`. -/
theorem withStation_named {s : State} {p : Payload} {lengthOk : Bool} {n : StationId} (length : lengthOk = true)
    (named : field p 1 1 = n.val + 1) (f : StationId → State × Answered) : s.withStation p lengthOk f = f n := by
  simp [State.withStation, length, named, stationOf_num]

/-- A request names the station whose number its second byte is. -/
theorem field_stationNumber (kind : Byte) (n : StationId) (after : List Byte) :
    field (kind :: BitVec.ofNat 8 (n.val + 1) :: after) 1 1 = n.val + 1 := by
  have small : (n.val + 1) % 256 = n.val + 1 := by omega
  simp [field, leNat, small]

/-! ### The staged slot (R49) -/

section
variable (s : State) (n : StationId) (x : Option StagedPlan)

theorem setStaged_onlyChanges : OnlyChanges s (s.setStaged n x) [.stations] := setPlans_onlyChanges s n _

theorem setStaged_station (m : StationId) : (s.setStaged n x).station m =
    if m = n then { s.station n with plans := { (s.station n).plans with staged := x } } else s.station m :=
  State.setPlans_station s n m _

end

/-- R50: a request whose rule writes the staged slot of a station changes that slot alone and marks no record. -/
theorem staged_runs {c : Instr} {s : State} {p : Payload} {rest : List Payload} {kind : Byte}
    {f : Payload → State → State × Answered} {n : StationId} {x : Option StagedPlan} {a : Answered}
    (runs : exec c s = s.takeRequest kind f) (h : TakesRequest s p rest) (hk : p.headD 0 = kind)
    (rule : f p (s.taken rest) = ((s.taken rest).setStaged n x, a)) :
    Runs c s fun t =>
      OnlyChanges s t [.stations, .cell, .marks] ∧ OnlyStations s t [n] ∧ MarksOnly s t []
      ∧ Replied t rest (replyPayload kind a.code a.data)
      ∧ t.station n = { s.station n with plans := { (s.station n).plans with staged := x } } := by
  have wrote := setStaged_onlyChanges (s.taken rest) n x
  obtain ⟨t, next, frame, marks, reply, after⟩ :=
    request_runs runs h hk rule wrote (by simp) (wrote.joinsMarks (by simp))
  have station (m : StationId) : t.station m = if m = n then
      { s.station n with plans := { (s.station n).plans with staged := x } } else s.station m :=
    (after.station (by simp) m).trans (setStaged_station _ n x m)
  refine ⟨t, next, frame.mono (by simp), fun m hm => ?_, marks, reply, ?_⟩
  · rw [station, if_neg (by simpa using hm)]
  · rw [station, if_pos rfl]

/-! ### Plan Begin (R52) -/

theorem planModeOfCode_range {k : Nat} {mode : PlanMode} (h : planModeOfCode k = some mode) : 1 ≤ k ∧ k ≤ 2 := by
  by_contra out
  have none : planModeOfCode k = none := by rw [planModeOfCode, if_neg (by omega), if_neg (by omega)]
  simp [none] at h

section
variable {s : State} {n : StationId}

theorem planBegin_accepted {lo hi : Byte} (mode : PlanMode) {count : Nat} (revision : lo.toNat + 256 * hi.toNat ≠ 0)
    (countLo : 1 ≤ count) (countHi : count ≤ 24) :
    s.planBegin [0x20, BitVec.ofNat 8 (n.val + 1), lo, hi, BitVec.ofNat 8 mode.code, BitVec.ofNat 8 count]
      = (s.setStaged n (some ⟨lo.toNat + 256 * hi.toNat, mode, .filling, List.replicate count none⟩), .ok) := by
  rw [State.planBegin, withStation_named (by rfl) (field_stationNumber 0x20 n _)]
  have small : count % 256 = count := by omega
  have fields : 1 ≤ lo.toNat + 256 * hi.toNat ∧ 1 ≤ count ∧ count ≤ 24 := by omega
  cases mode <;> simp [field, leNat, PlanMode.code, planModeOfCode, small, fields]

theorem planBegin_badValue {lo hi mode count : Byte}
    (h : lo.toNat + 256 * hi.toNat = 0 ∨ mode.toNat < 1 ∨ 2 < mode.toNat ∨ count.toNat < 1 ∨ 24 < count.toNat) :
    s.planBegin [0x20, BitVec.ofNat 8 (n.val + 1), lo, hi, mode, count] = s.refuse .badValue := by
  rw [State.planBegin, withStation_named (by rfl) (field_stationNumber 0x20 n _)]
  split
  next => rfl
  next named =>
    have range := planModeOfCode_range named
    simp [field, leNat] at range ⊢
    omega

end

/-! ### Plan Drop (R56) -/

section
variable {s : State} {n : StationId}

theorem planDrop_accepted {st : StagedPlan} (staged : (s.station n).plans.staged = some st) :
    s.planDrop [0x22, BitVec.ofNat 8 (n.val + 1)] = (s.setStaged n none, .ok) := by
  rw [State.planDrop, withStation_named (by rfl) (field_stationNumber 0x22 n _), staged]

theorem planDrop_notDefined (empty : (s.station n).plans.staged = none) :
    s.planDrop [0x22, BitVec.ofNat 8 (n.val + 1)] = s.refuse .notDefined := by
  rw [State.planDrop, withStation_named (by rfl) (field_stationNumber 0x22 n _), empty]

end

/-! ### The entries of Plan Steps (R53) -/

section
variable {old : List (Option PlanStep)} {first : Nat} {new : List PlanStep}

theorem writeSteps_length (start : 1 ≤ first) (fits : first + new.length ≤ old.length + 1) :
    (writeSteps old first new).length = old.length := by
  simp only [writeSteps, List.length_append, List.length_take, List.length_map, List.length_drop]
  omega

/-- R53: the new entries stand from index `first` on, and every other index keeps its entry. -/
theorem writeSteps_getElem? (start : 1 ≤ first) (fits : first + new.length ≤ old.length + 1) (i : Nat) :
    (writeSteps old first new)[i]? =
      if first ≤ i + 1 ∧ i + 1 < first + new.length then some new[i + 1 - first]? else old[i]? := by
  have before : (old.take (first - 1)).length = first - 1 := by rw [List.length_take]; omega
  rw [writeSteps, List.append_assoc]
  by_cases early : i < first - 1
  · rw [List.getElem?_append_left (by omega), List.getElem?_take_of_lt early, if_neg (by omega)]
  · rw [List.getElem?_append_right (by omega), before]
    by_cases inside : i + 1 < first + new.length
    · rw [List.getElem?_append_left (by rw [List.length_map]; omega), List.getElem?_map, if_pos (by omega),
        show i - (first - 1) = i + 1 - first by omega, List.getElem?_eq_getElem (by omega), Option.map_some]
    · rw [List.getElem?_append_right (by rw [List.length_map]; omega), List.getElem?_drop, if_neg (by omega),
        List.length_map, show first - 1 + new.length + (i - (first - 1) - new.length) = i by omega]

/-- The only list of steps that has the new entries from index `first` on and the old ones elsewhere is the one that
Plan Steps writes. -/
theorem eq_writeSteps {steps : List (Option PlanStep)} (start : 1 ≤ first)
    (fits : first + new.length ≤ old.length + 1) (length : steps.length = old.length)
    (entries : ∀ i, i < old.length → steps[i]? =
      if first ≤ i + 1 ∧ i + 1 < first + new.length then some new[i + 1 - first]? else old[i]?) :
    steps = writeSteps old first new := by
  refine List.ext_getElem? fun i => ?_
  by_cases inside : i < old.length
  · rw [entries i inside, writeSteps_getElem? start fits]
  · rw [List.getElem?_eq_none (by omega), List.getElem?_eq_none (by rw [writeSteps_length start fits]; omega)]

end

/-! ### What becomes of a plan that is written (R54, R55) -/

theorem toPlan_eq_none_iff {x : StagedPlan} : x.toPlan = none ↔ none ∈ x.steps := by
  rw [StagedPlan.toPlan, Option.map_eq_none_iff, mapM_eq_none_iff]
  exact ⟨fun ⟨_, mem, unwritten⟩ => unwritten ▸ mem, fun mem => ⟨none, mem, rfl⟩⟩

theorem steps_of_toPlan {x : StagedPlan} {plan : Plan} (h : x.toPlan = some plan) : x.steps = plan.steps.map some := by
  obtain ⟨steps, read, rfl⟩ := Option.map_eq_some_iff.1 h
  simpa using mapM_eq_some_iff.1 read

theorem written_of_complete {x : StagedPlan} (full : none ∉ x.steps) : x.written = x.steps.length := by
  rw [StagedPlan.written, List.filter_eq_self.2]
  intro entry mem
  cases entry with
  | none => exact absurd mem full
  | some _ => rfl

section
variable {s : State} {n : StationId} {x : StagedPlan}

theorem settleStaged_unwritten (gap : none ∈ x.steps) :
    s.settleStaged n x = (s.setStaged n (some x), ⟨.done, le 1 x.fill.code ++ le 1 x.written⟩) := by
  rw [State.settleStaged, toPlan_eq_none_iff.2 gap]

/-- R54, R55: a plan whose every step is written is settled by whether the positions it names are defined roles. -/
theorem settleStaged_written (full : none ∉ x.steps) :
    ∃ plan, x.steps = plan.steps.map some ∧ s.settleStaged n x =
      if s.planDefined n plan = true then
        (s.setStaged n (some { x with fill := .complete }), ⟨.done, [0x02, BitVec.ofNat 8 x.steps.length]⟩)
      else (s.setStaged n none, .refuse .badPlan) := by
  obtain ⟨plan, whole⟩ := Option.ne_none_iff_exists'.1 (mt toPlan_eq_none_iff.1 full)
  refine ⟨plan, steps_of_toPlan whole, ?_⟩
  rw [State.settleStaged, whole, written_of_complete full]
  rfl

theorem settleStaged_complete (full : none ∉ x.steps)
    (defined : ∀ y, some y ∈ x.steps → (s.role ⟨n, y.pos⟩).record.defined = true) :
    s.settleStaged n x
      = (s.setStaged n (some { x with fill := .complete }), ⟨.done, [0x02, BitVec.ofNat 8 x.steps.length]⟩) := by
  obtain ⟨plan, steps, settled⟩ := settleStaged_written (s := s) (n := n) full
  rw [settled, if_pos]
  exact List.all_eq_true.2 fun y mem => defined y (by simp [steps, mem])

theorem settleStaged_badPlan (full : none ∉ x.steps)
    (undefined : ∃ y, some y ∈ x.steps ∧ (s.role ⟨n, y.pos⟩).record.defined = false) :
    s.settleStaged n x = (s.setStaged n none, .refuse .badPlan) := by
  obtain ⟨plan, steps, settled⟩ := settleStaged_written (s := s) (n := n) full
  obtain ⟨y, mem, missing⟩ := undefined
  rw [settled, if_neg]
  refine fun defined => absurd (List.all_eq_true.1 defined y (by simpa [steps] using mem)) ?_
  simp [missing]

end

/-! ### Plan Steps (R53 to R55) -/

section
variable {s : State} {p : Payload} {n : StationId} {st : StagedPlan}

theorem planSteps_notDefined (length : p.length = 4 + 11 * field p 3 1) (named : field p 1 1 = n.val + 1)
    (empty : (s.station n).plans.staged = none) : s.planSteps p = s.refuse .notDefined := by
  rw [State.planSteps, withStation_named (by simp [length]) named, empty]

theorem planSteps_badValue (length : p.length = 4 + 11 * field p 3 1) (named : field p 1 1 = n.val + 1)
    (staged : (s.station n).plans.staged = some st)
    (out : field p 3 1 < 1 ∨ 24 < field p 3 1 ∨ field p 2 1 < 1 ∨ st.steps.length < field p 2 1 + field p 3 1 - 1
      ∨ ∃ i < field p 3 1, ¬ stepInRange p (4 + 11 * i)) : s.planSteps p = s.refuse .badValue := by
  rw [State.planSteps, withStation_named (by simp [length]) named, staged]
  by_cases range : 1 ≤ field p 3 1 ∧ field p 3 1 ≤ 24 ∧ 1 ≤ field p 2 1
      ∧ field p 2 1 + field p 3 1 - 1 ≤ st.steps.length
  · obtain ⟨countLo, countHi, start, fits⟩ := range
    have step := (((out.resolve_left countLo.not_gt).resolve_left countHi.not_gt).resolve_left
      start.not_gt).resolve_left fits.not_gt
    rw [parseSteps_eq_none step]
    exact ite_self _
  · exact if_neg range

theorem planSteps_accepted {first : Nat} {new : List PlanStep} (staged : (s.station n).plans.staged = some st)
    (start : 1 ≤ first) (startHi : first ≤ 24) (nonempty : 1 ≤ new.length) (atMost : new.length ≤ 24)
    (fits : first + new.length ≤ st.steps.length + 1) (ranges : ∀ x ∈ new, x.inRange) :
    s.planSteps (0x21 :: BitVec.ofNat 8 (n.val + 1) :: BitVec.ofNat 8 first :: BitVec.ofNat 8 new.length
        :: new.flatMap stepBytes)
      = s.settleStaged n { st with steps := writeSteps st.steps first new } := by
  generalize hp : (0x21 :: BitVec.ofNat 8 (n.val + 1) :: BitVec.ofNat 8 first :: BitVec.ofNat 8 new.length
        :: new.flatMap stepBytes : Payload) = p
  have named : field p 1 1 = n.val + 1 := hp ▸ field_stationNumber 0x21 n _
  have index : field p 2 1 = first := by
    have small : first % 256 = first := by omega
    simp [← hp, field, leNat, small]
  have count : field p 3 1 = new.length := by
    have small : new.length % 256 = new.length := by omega
    simp [← hp, field, leNat, small]
  have length : p.length = 4 + 11 * new.length := by
    simp [← hp, List.length_flatMap, stepBytes_length]
    omega
  rw [State.planSteps, withStation_named (by simp [length, count]) named, staged,
    parseSteps_flatMap count (hp ▸ rfl) ranges, index, count]
  exact if_pos (by omega)

end

/-! ### The statement -/

theorem exec_planBegin (s : State) : exec .planBegin s = s.takeRequest 0x20 fun p s => s.planBegin p := rfl

theorem exec_planSteps (s : State) : exec .planSteps s = s.takeRequest 0x21 fun p s => s.planSteps p := rfl

theorem exec_planDrop (s : State) : exec .planDrop s = s.takeRequest 0x22 fun p s => s.planDrop p := rfl

/-- Settles O46: each clause is one outcome of a rule, put through what a request of that outcome does. -/
theorem planRequestsFillStagedSlot : Obligations.PlanRequestsFillStagedSlot := by
  refine ⟨fun n rest s => ⟨fun lo hi mode count h revision countLo countHi => ?_, fun lo hi mode count h out => ?_,
    fun p h kind length named => ⟨fun empty => ?_, fun st staged out => ?_⟩,
    fun h => ⟨fun st staged => ?_, fun empty => ?_⟩⟩,
    fun n first new st rest s h staged start startHi nonempty atMost fits ranges steps length entries => ?_⟩
  · exact staged_runs (exec_planBegin s) h rfl (planBegin_accepted mode revision countLo countHi)
  · exact refusal_runs (exec_planBegin s) h rfl (planBegin_badValue out)
  · exact refusal_runs (exec_planSteps s) h kind (planSteps_notDefined length named empty)
  · exact refusal_runs (exec_planSteps s) h kind (planSteps_badValue length named staged out)
  · exact staged_runs (exec_planDrop s) h rfl (planDrop_accepted staged)
  · exact refusal_runs (exec_planDrop s) h rfl (planDrop_notDefined empty)
  · obtain rfl := eq_writeSteps start fits length entries
    have rule := planSteps_accepted (s := s.taken rest) staged start startHi nonempty atMost fits ranges
    by_cases gap : none ∈ writeSteps st.steps first new
    · obtain ⟨t, next, frame, stations, marks, reply, slot⟩ :=
        staged_runs (exec_planSteps s) h rfl (rule.trans (settleStaged_unwritten gap))
      exact ⟨t, next, frame, stations, marks, fun _ => ⟨slot, reply⟩, fun full => absurd gap full,
        fun full => absurd gap full⟩
    by_cases defined : ∀ x, some x ∈ writeSteps st.steps first new → (s.role ⟨n, x.pos⟩).record.defined = true
    · obtain ⟨t, next, frame, stations, marks, reply, slot⟩ :=
        staged_runs (exec_planSteps s) h rfl (rule.trans (settleStaged_complete gap defined))
      exact ⟨t, next, frame, stations, marks, fun hole => absurd hole gap, fun _ _ => ⟨slot, reply⟩,
        fun _ ⟨x, mem, missing⟩ => absurd (defined x mem) (by simp [missing])⟩
    · have undefined : ∃ x, some x ∈ writeSteps st.steps first new
          ∧ (s.role ⟨n, x.pos⟩).record.defined = false := by
        simpa using defined
      obtain ⟨t, next, frame, stations, marks, reply, slot⟩ :=
        staged_runs (exec_planSteps s) h rfl (rule.trans (settleStaged_badPlan gap undefined))
      exact ⟨t, next, frame, stations, marks, fun hole => absurd hole gap, fun _ all => absurd all defined,
        fun _ _ => ⟨slot, reply⟩⟩

end Sys2Proof.Machine
end

section
/-!
PROOFS. The choice of a spare for a role (R115 to R117) and the entry that records it (R150): which tool the
choice takes, what a reservation and a joining of the waiting queue write, and the statement about them.
-/

namespace Sys2Proof.Machine

/-! ### Which tool a choice takes (R115, R116) -/

theorem qualifies_iff_qualifying (s : State) (u : ToolId) (r : RoleId) :
    s.qualifies u r = true ↔ s.Qualifying r u := by
  simp only [State.qualifies, State.Qualifying, ToolRecord.remaining_eq_lifeLeft, Option.isSome_iff_ne_none,
    Bool.and_eq_true, Bool.not_eq_true', beq_iff_eq, decide_eq_true_eq, and_assoc]

/-- The tools a choice for the role reads, by number. -/
def State.spares (s : State) (r : RoleId) : List ToolId := toolIds.filter fun u => s.qualifies u r

theorem mem_spares {s : State} {r : RoleId} {u : ToolId} : u ∈ s.spares r ↔ s.Qualifying r u := by
  rw [State.spares, List.mem_filter, qualifies_iff_qualifying, toolIds, and_iff_right (List.mem_finRange u)]

theorem spares_sortedLT (s : State) (r : RoleId) : (s.spares r).SortedLT :=
  ((List.sortedLT_finRange 64).pairwise.filter _).sortedLT

/-- In a strictly rising list the element that stands earlier is the lesser. -/
theorem le_of_idxOf_le {us : List ToolId} (rising : us.SortedLT) {u v : ToolId} (hu : u ∈ us) (hv : v ∈ us)
    (h : us.idxOf u ≤ us.idxOf v) : u ≤ v := by
  have le := (rising.getElem_le_getElem_iff (hi := List.idxOf_lt_length_iff.2 hu)
    (hj := List.idxOf_lt_length_iff.2 hv)).2 h
  rwa [List.getElem_idxOf, List.getElem_idxOf] at le

/-- R116: the choice is the first tool of least life, in the order of the numbers. -/
theorem bestSpare_eq_argmin (s : State) (r : RoleId) :
    s.bestSpare r = (s.spares r).argmin fun u => (s.tool u).lifeLeft := by
  have step : s.preferred
      = List.argAux fun u v => (s.tool u).lifeLeft < (s.tool v).lifeLeft := by
    funext best u
    cases best <;> simp only [State.preferred, List.argAux, ToolRecord.remaining_eq_lifeLeft]
  rw [State.bestSpare, step]
  rfl

theorem bestSpare_qualifying {s : State} {r : RoleId} {u : ToolId} (h : s.bestSpare r = some u) :
    s.Qualifying r u := by
  rw [bestSpare_eq_argmin] at h
  exact mem_spares.1 (List.argmin_mem h)

theorem bestSpare_least {s : State} {r : RoleId} {u v : ToolId} (h : s.bestSpare r = some u)
    (hv : s.Qualifying r v) :
    (s.tool u).lifeLeft < (s.tool v).lifeLeft ∨ ((s.tool u).lifeLeft = (s.tool v).lifeLeft ∧ u ≤ v) := by
  rw [bestSpare_eq_argmin] at h
  have mem := mem_spares.2 hv
  rcases (List.le_of_mem_argmin mem h).lt_or_eq with less | same
  · exact .inl less
  · exact .inr ⟨same, le_of_idxOf_le (spares_sortedLT s r) (List.argmin_mem h) mem
      (List.index_of_argmin h mem same.ge)⟩

theorem bestSpare_eq_none_iff (s : State) (r : RoleId) : s.bestSpare r = none ↔ ∀ u, ¬ s.Qualifying r u := by
  simp only [bestSpare_eq_argmin, List.argmin_eq_none, List.eq_nil_iff_forall_not_mem, mem_spares]

/-! ### A reservation (R10, R107) -/

section
variable (s : State) (u : ToolId) (r : RoleId)

theorem reserve_tool (v : ToolId) :
    (s.reserve u r).tool v = if v = u then (s.tool u).reservedFor r else s.tool v :=
  putTool_tool s u v _

theorem reserve_role (x : RoleId) :
    (s.reserve u r).role x = if x = r then { s.role r with state := .reserved } else s.role x := by
  simp [State.reserve, (putTool_onlyChanges _ _ _).role]

theorem reserve_onlyTools : OnlyTools s (s.reserve u r) [u] := putTool_onlyTools s u _

theorem reserve_onlyRoles : OnlyRoles s (s.reserve u r) [r] := by
  intro x hx
  rw [reserve_role, if_neg (by simpa using hx)]

end

/-! ### A role that joins its pool's queue (R116, R118) -/

theorem enqueue_role (s : State) (r x : RoleId) :
    (s.enqueue r).role x = if x = r then { s.role r with state := .waiting } else s.role x := by
  unfold State.enqueue
  split <;> simp

theorem enqueue_onlyRoles (s : State) (r : RoleId) : OnlyRoles s (s.enqueue r) [r] := by
  intro x hx
  rw [enqueue_role, if_neg (by simpa using hx)]

theorem enqueue_pool {s : State} {r : RoleId} {q : PoolId} (h : (s.role r).record.pool = some q) (x : PoolId) :
    (s.enqueue r).pool x = if x = q then s.pool q ++ [r] else s.pool x := by
  simp [State.enqueue, h]

theorem enqueue_onlyPools {s : State} {r : RoleId} {q : PoolId} (h : (s.role r).record.pool = some q) :
    OnlyPools s (s.enqueue r) [q] := by
  intro x hx
  rw [enqueue_pool h, if_neg (by simpa using hx)]

/-! ### The two choices by their outcome (R116, R117) -/

section
variable {s : State} {r : RoleId} {u : ToolId}

theorem waitingChoice_of_some (h : s.bestSpare r = some u) : s.waitingChoice r = (s.reserve u r, some u) := by
  simp only [State.waitingChoice, h]

theorem waitingChoice_of_none (h : s.bestSpare r = none) : s.waitingChoice r = (s.enqueue r, none) := by
  simp only [State.waitingChoice, h]

theorem waitingChoice_snd (s : State) (r : RoleId) : (s.waitingChoice r).2 = s.bestSpare r := by
  cases h : s.bestSpare r with
  | some u => rw [waitingChoice_of_some h]
  | none => rw [waitingChoice_of_none h]

theorem rideAlongChoice_of_some (h : s.bestSpare r = some u) : s.rideAlongChoice r = s.waitingChoice r := by
  simp only [State.rideAlongChoice, State.waitingChoice, h]

theorem rideAlongChoice_of_none (h : s.bestSpare r = none) : s.rideAlongChoice r = (s, none) := by
  simp only [State.rideAlongChoice, h]

end

/-! ### The entry that records a choice (R142, R150) -/

theorem reasonOf_needy {x : ToolRecord} (h : x.state = .worn ∨ x.state = .broken) :
    reasonOf x = if x.state = .broken then .broken else if x.flags.undersize = true then .undersize else .worn := by
  rcases h with h | h <;> simp [reasonOf, h]

theorem reasonOf_needy_ne_rideAlong {x : ToolRecord} (h : x.state = .worn ∨ x.state = .broken) :
    reasonOf x ≠ .rideAlong := by
  rw [reasonOf_needy h]
  split_ifs <;> decide

theorem reasonOf_rideAlong {x : ToolRecord} (worn : x.state ≠ .worn) (broken : x.state ≠ .broken) :
    reasonOf x = .rideAlong := by
  unfold reasonOf
  split
  next e => exact absurd e broken
  next e => exact absurd e worn
  next => rfl

section
variable {s : State} {r : RoleId} {u : ToolId} (current : (s.role r).record.current = some u)
include current

/-- R150: the entry of a role whose tool is WORN or BROKEN takes the tool of the waiting choice, or waits. -/
theorem makeEntry_of_needy (h : reasonOf (s.tool u) ≠ .rideAlong) :
    s.makeEntry r.station r.pos = ((s.waitingChoice r).1,
      [{ pos := r.pos, outgoing := u, incoming := s.bestSpare r, reason := reasonOf (s.tool u)
         state := if s.bestSpare r = none then .waiting else .reserved }]) := by
  cases spare : s.bestSpare r with
  | some v => simp [State.makeEntry, current, h, waitingChoice_of_some spare]
  | none => simp [State.makeEntry, current, h, waitingChoice_of_none spare]

/-- R117, R150: a ride-along role for which a tool qualifies gets an entry with it. -/
theorem makeEntry_of_rideAlong {v : ToolId} (h : reasonOf (s.tool u) = .rideAlong) (spare : s.bestSpare r = some v) :
    s.makeEntry r.station r.pos = ((s.waitingChoice r).1,
      [{ pos := r.pos, outgoing := u, incoming := some v, reason := .rideAlong, state := .reserved }]) := by
  simp [State.makeEntry, current, h, rideAlongChoice_of_some spare, waitingChoice_of_some spare]

/-- R117, R150: a ride-along role for which none does is dropped, and nothing changes. -/
theorem makeEntry_of_rideAlong_dropped (h : reasonOf (s.tool u) = .rideAlong) (spare : s.bestSpare r = none) :
    s.makeEntry r.station r.pos = (s, []) := by
  simp [State.makeEntry, current, h, rideAlongChoice_of_none spare]

end

/-- Settles O35: the choice is the argmin of life over the qualifying tools in the order of their numbers, and each
entry is read off its choice. -/
theorem choiceTakesLeastLife : Obligations.ChoiceTakesLeastLife := by
  unfold Obligations.ChoiceTakesLeastLife
  intro r s
  refine ⟨fun u h => ⟨bestSpare_qualifying h, fun v => bestSpare_least h⟩, bestSpare_eq_none_iff s r,
    ⟨waitingChoice_snd s r, fun u h => ?takes, fun h => ?waits⟩, fun u current needy => ?needy,
    fun u current worn broken => ?rideAlong⟩
  case takes =>
    rw [waitingChoice_of_some h]
    exact ⟨reserve_onlyChanges s u r, reserve_onlyTools s u r, reserve_onlyRoles s u r,
      (reserve_tool s u r u).trans (if_pos rfl), (reserve_role s u r r).trans (if_pos rfl)⟩
  case waits =>
    rw [waitingChoice_of_none h]
    exact ⟨enqueue_onlyChanges s r, enqueue_onlyRoles s r, (enqueue_role s r r).trans (if_pos rfl),
      fun q pool => ⟨enqueue_onlyPools pool, (enqueue_pool pool q).trans (if_pos rfl)⟩⟩
  case needy =>
    rw [← reasonOf_needy needy]
    exact makeEntry_of_needy current (reasonOf_needy_ne_rideAlong needy)
  case rideAlong =>
    have reason := reasonOf_rideAlong worn broken
    exact ⟨fun v => makeEntry_of_rideAlong current reason, makeEntry_of_rideAlong_dropped current reason⟩

end Sys2Proof.Machine
end

section
/-!
PROOFS. A state directive that is asked of a station, and a halt (R125, R130): what each leaves of the station, of its
link and of the notices.
-/

namespace Sys2Proof.Machine

/-! ### A free station link (R173, R184) -/

theorem OnlyChanges.link {s t : State} {as : List Area} (h : OnlyChanges s t as) (ha : .links ∉ as) (l : LinkId) :
    t.link l = s.link l := by
  have same : t.links = s.links := h _ ha
  simp only [State.link, same]

theorem stationLink_ne_zero (n : StationId) : stationLink n ≠ 0 := Fin.succ_ne_zero n

/-- Whether a station's link is free is read off the link alone. -/
theorem linkFree_stationLink_iff (s : State) (n : StationId) :
    LinkFree s (stationLink n) ↔ (s.link (stationLink n)).sending = none
      ∧ (s.link (stationLink n)).pendingRate = none ∧ (s.link (stationLink n)).answers = [] := by
  unfold LinkFree State.rateDue
  refine and_congr_right fun idle => ?_
  simp [idle, stationLink_ne_zero]

theorem linkFree_stationLink_congr {s t : State} {n : StationId}
    (h : t.link (stationLink n) = s.link (stationLink n)) :
    LinkFree t (stationLink n) ↔ LinkFree s (stationLink n) := by
  rw [linkFree_stationLink_iff, linkFree_stationLink_iff, h]

theorem linkFree_iff_txReady (s : State) (l : LinkId) :
    LinkFree s l ↔ s.txReady l = true ∧ (s.link l).answers = [] := by
  simp [LinkFree, State.txReady, and_assoc]

/-! ### A state directive that is asked (R130) -/

theorem setControl_setControl (s : State) (n : StationId) (x y : Control) :
    (s.setControl n x).setControl n y = s.setControl n y := by
  simp [State.setControl, State.setStation, State.station]

section
variable {s : State} {n : StationId}

/-- R130: a free link takes the state directive that waits, whose slot is emptied. -/
theorem sendDirective_of_linkFree {d : StateDirective} (free : LinkFree s (stationLink n))
    (slot : (s.station n).control.stateSlot = some d) :
    s.sendDirective n = (s.setControl n { (s.station n).control with stateSlot := none }).transmit (stationLink n)
      (.directive d.payload) := by
  simp only [State.sendDirective, slot]
  exact if_pos ((linkFree_iff_txReady _ _).1 free)

theorem sendDirective_of_not_linkFree (busy : ¬ LinkFree s (stationLink n)) : s.sendDirective n = s :=
  if_neg fun ready => busy ((linkFree_iff_txReady _ _).2 ready)

variable (d : StateDirective)

theorem askState_of_linkFree (free : LinkFree s (stationLink n)) :
    s.askState n d = (s.setControl n { (s.station n).control with stateSlot := none }).transmit (stationLink n)
      (.directive d.payload) := by
  have free' := (linkFree_stationLink_congr (s := s)
    (t := s.setControl n { (s.station n).control with stateSlot := some d }) rfl).2 free
  rw [State.askState, sendDirective_of_linkFree free' (d := d) (by simp), setControl_setControl]
  simp

theorem askState_of_not_linkFree (busy : ¬ LinkFree s (stationLink n)) :
    s.askState n d = s.setControl n { (s.station n).control with stateSlot := some d } :=
  sendDirective_of_not_linkFree (mt (linkFree_stationLink_congr rfl).1 busy)

end

section
variable (s : State) (n : StationId) (d : StateDirective)

/-- R130: of the stations, only the one asked changes, and of it only the state slot. -/
theorem askState_station : ∃ slot, ∀ m, (s.askState n d).station m = if m = n then
    { s.station n with control := { (s.station n).control with stateSlot := slot } } else s.station m := by
  by_cases free : LinkFree s (stationLink n)
  · exact ⟨none, fun m => by rw [askState_of_linkFree d free]; simp⟩
  · exact ⟨some d, fun m => by rw [askState_of_not_linkFree d free]; simp⟩

theorem askState_onlyLinks : OnlyLinks s (s.askState n d) [stationLink n] := by
  intro l hl
  have other : l ≠ stationLink n := by simpa using hl
  by_cases free : LinkFree s (stationLink n)
  · simp [askState_of_linkFree d free, other]
  · simp [askState_of_not_linkFree d free]

theorem duration_directive (p : Payload) : (TxItem.directive p).duration = 10000 * (p.length + 5) := by
  simp [TxItem.duration, TxItem.bytes, frameBytes, checked, checkBytes, le]

theorem askState_askedState : AskedState s (s.askState n d) n d := by
  refine ⟨fun free => ?_, fun busy => ?_⟩
  · simp [askState_of_linkFree d free, duration_directive]
  · simp [askState_of_not_linkFree d busy]

end

/-- A directive asked between two states is asked between states around them that leave stations and links. -/
theorem AskedState.of_frames {s s' t' t : State} {n : StationId} {d : StateDirective} {bs : List Area}
    (h : AskedState s' t' n d) (first : ∀ l, s'.link l = s.link l) (last : OnlyChanges t' t bs)
    (stations : .stations ∉ bs) (links : .links ∉ bs) : AskedState s t n d := by
  simpa only [AskedState, linkFree_stationLink_congr (first (stationLink n)), first, last.link links,
    last.station stations] using h

/-! ### A halt (R125) -/

/-- The control of a station that is halted with this cause and halt tool. -/
def Control.haltedFor (c : Control) (cause : HaltCause) (u : Option ToolId) : Control :=
  { c with state := .halted, cause := some cause, haltTool := u, haltLine := true }

theorem halt_running {s : State} {n : StationId} (h : s.stationState n ≠ .offline) (cause : HaltCause)
    (u : Option ToolId) :
    s.halt n cause u = ((s.setControl n ((s.station n).control.haltedFor cause u)).askState n
      (.halt cause)).queueNotice n .halt :=
  if_neg h

section
variable {s : State} {n : StationId} (h : s.stationState n ≠ .offline) (cause : HaltCause) (u : Option ToolId)
include h

/-- R125: of the stations, only the halted one changes, and of it only its control. -/
theorem halt_station : ∃ slot, ∀ m, (s.halt n cause u).station m = if m = n then
    { s.station n with control := { (s.station n).control.haltedFor cause u with stateSlot := slot } }
    else s.station m := by
  obtain ⟨slot, asked⟩ :=
    askState_station (s.setControl n ((s.station n).control.haltedFor cause u)) n (.halt cause)
  refine ⟨slot, fun m => ?_⟩
  rw [halt_running h, (queueNotice_onlyChanges _ _ _).station (by simp), asked]
  by_cases same : m = n <;> simp [same]

theorem halt_onlyLinks : OnlyLinks s (s.halt n cause u) [stationLink n] := by
  intro l hl
  rw [halt_running h, (queueNotice_onlyChanges _ _ _).link (by simp), askState_onlyLinks _ _ _ l hl,
    State.setControl_link]

theorem halt_askedState : AskedState s (s.halt n cause u) n (.halt cause) := by
  rw [halt_running h]
  exact (askState_askedState (s.setControl n ((s.station n).control.haltedFor cause u)) n (.halt cause)).of_frames
    (fun _ => rfl) (queueNotice_onlyChanges _ n .halt) (by simp) (by simp)

theorem halt_notice : ⟨n, .halt⟩ ∈ (s.halt n cause u).notices := by
  rw [halt_running h]
  exact queueNotice_mem _ n .halt

end

end Sys2Proof.Machine
end

section
/-!
PROOFS. Station Configure and Station Halt (R133, R137): the outcome of each rule, case by case, and the statement
about both.
-/

namespace Sys2Proof.Machine

/-! ### The six settings (R131, R133) -/

/-- The six settings that Station Configure gives. -/
def givenSettings (p : Payload) : Settings :=
  { gatherMs := field p 2 2, gatherMaxMs := field p 4 4, orderTimeoutS := field p 8 2,
    rideAlongDresses := field p 10 2, rideAlongWu := field p 12 4, restartCharge := field p 16 2 }

/-- The ranges of the six settings (R131). -/
abbrev settingsInRange (p : Payload) : Prop :=
  field p 2 2 ≤ 60000 ∧ field p 2 2 ≤ field p 4 4 ∧ field p 4 4 ≤ 120000 ∧ 10 ≤ field p 8 2 ∧ field p 8 2 ≤ 7200
    ∧ field p 10 2 ≤ 1000 ∧ field p 12 4 ≤ 1000000 ∧ field p 16 2 ≤ 4000

theorem parseSettings_inRange {p : Payload} (h : settingsInRange p) : parseSettings p = some (givenSettings p) :=
  if_pos h

theorem parseSettings_outOfRange {p : Payload} (h : ¬ settingsInRange p) : parseSettings p = none :=
  if_neg h

/-! ### The settings written (R133, R187) -/

section
variable (s : State) (n : StationId) (x : Settings)

theorem configure_onlyChanges : OnlyChanges s (s.configure n x) [.stations, .marks] :=
  ((setControl_onlyChanges s n _).mono (by simp)).trans ((mark_onlyChanges _ _).mono (by simp))

theorem configure_station (m : StationId) : (s.configure n x).station m = if m = n then
    { s.station n with control := { (s.station n).control with settings := x } } else s.station m :=
  State.setControl_station s n m _

/-- R133: the settings record joins the pending-write set whether the settings change or not. -/
theorem configure_joinsMarks : JoinsMarks s (s.configure n x) [.settings n] :=
  mark_joinsMarks (s.setControl n { (s.station n).control with settings := x }) (.settings n)

theorem configure_stationState : (s.configure n x).stationState n = s.stationState n := by
  simp [State.stationState, configure_station]

end

/-! ### Station Configure (R133) -/

section
variable {s : State} {p : Payload} {n : StationId} (length : p.length = 18) (named : field p 1 1 = n.val + 1)
include length named

theorem stationConfigure_locked (running : s.stationState n ≠ .offline) :
    s.stationConfigure p = s.refuse .locked := by
  rw [State.stationConfigure, withStation_named (by simp [length]) named]
  exact if_pos running

theorem stationConfigure_badValue (offline : s.stationState n = .offline) (out : ¬ settingsInRange p) :
    s.stationConfigure p = s.refuse .badValue := by
  rw [State.stationConfigure, withStation_named (by simp [length]) named, parseSettings_outOfRange out]
  exact if_neg (not_not.2 offline)

theorem stationConfigure_accepted (offline : s.stationState n = .offline) (range : settingsInRange p) :
    s.stationConfigure p = (s.configure n (givenSettings p), ⟨.done, [0x00]⟩) := by
  rw [State.stationConfigure, withStation_named (by simp [length]) named, parseSettings_inRange range,
    if_neg (not_not.2 offline)]
  simp only [stationDone, configure_stationState, offline]
  rfl

end

/-! ### Station Halt (R137) -/

section
variable {s : State} {n : StationId}

theorem stationHalt_wrongState (offline : s.stationState n = .offline) :
    s.stationHalt [0x43, BitVec.ofNat 8 (n.val + 1)] = s.refuse .wrongState := by
  rw [State.stationHalt, withStation_named (by rfl) (field_stationNumber 0x43 n _)]
  exact if_pos offline

theorem stationHalt_accepted (running : s.stationState n ≠ .offline) :
    s.stationHalt [0x43, BitVec.ofNat 8 (n.val + 1)] = (s.halt n .cell none, ⟨.done, [0x05]⟩) := by
  rw [State.stationHalt, withStation_named (by rfl) (field_stationNumber 0x43 n _), if_neg running]
  obtain ⟨slot, station⟩ := halt_station running .cell none
  have halted : (s.halt n .cell none).stationState n = .halted := by
    simp [State.stationState, station, Control.haltedFor]
  rw [stationDone, halted]
  rfl

end

/-! ### The statement -/

theorem exec_stationConfigure (s : State) :
    exec .stationConfigure s = s.takeRequest 0x40 fun p s => s.stationConfigure p := rfl

theorem exec_stationHalt (s : State) : exec .stationHalt s = s.takeRequest 0x43 fun p s => s.stationHalt p := rfl

/-- Settles O49: each clause is one outcome of a rule, put through what a request of that outcome does. -/
theorem configureAndHalt : Obligations.ConfigureAndHalt := by
  refine fun n p rest s => ⟨fun h kind length named => ⟨fun running => ?_, fun offline out => ?_,
    fun offline range => ?_⟩, fun h offline => ?_, fun h running => ?_⟩
  · exact refusal_runs (exec_stationConfigure s) h kind
      (stationConfigure_locked (s := s.taken rest) length named running)
  · exact refusal_runs (exec_stationConfigure s) h kind
      (stationConfigure_badValue (s := s.taken rest) length named offline out)
  · obtain ⟨t, next, frame, marks, reply, after⟩ := request_runs (exec_stationConfigure s) h kind
      (stationConfigure_accepted (s := s.taken rest) length named offline range) (configure_onlyChanges _ n _)
      (by simp) (configure_joinsMarks _ n _)
    have station (m : StationId) := (after.station (by simp) m).trans (configure_station _ n _ m)
    refine ⟨t, next, frame.mono (by simp), fun m hm => ?_, marks, reply, ?_⟩
    · rw [station, if_neg (by simpa using hm)]; rfl
    · rw [station, if_pos rfl]; rfl
  · exact refusal_runs (exec_stationHalt s) h rfl (stationHalt_wrongState (s := s.taken rest) offline)
  · have running' : (s.taken rest).stationState n ≠ .offline := running
    have changes := halt_onlyChanges (s.taken rest) n .cell none
    obtain ⟨t, next, frame, marks, reply, after⟩ := request_runs (exec_stationHalt s) h rfl
      (stationHalt_accepted running') changes (by simp) (changes.joinsMarks (by simp))
    obtain ⟨slot, halted⟩ := halt_station running' .cell none
    have station (m : StationId) := (after.station (by simp) m).trans (halted m)
    have self := (station n).trans (if_pos rfl)
    refine ⟨t, next, frame.mono (by simp), fun m hm => ?others, fun l hl => ?links, marks, reply, ?_, ?_, ?_, ?_,
      ?_, ?_, ?_, ?notice, ?asked⟩
    case others => rw [station, if_neg (by simpa using hm)]; rfl
    case links => rw [after.link (by simp), halt_onlyLinks running' .cell none l hl]; rfl
    case notice => rw [after.notices (by simp)]; exact halt_notice running' .cell none
    case asked =>
      exact (halt_askedState running' .cell none).of_frames (fun _ => rfl) after (by simp) (by simp)
    all_goals rw [self]; rfl

end Sys2Proof.Machine
end

section
/-!
PROOFS. What is done on one link alone: a framer's phase is written and an answer is asked (R167, R173). Later proofs
cite `ChangesLink` for what such a step leaves alone.
-/

namespace Sys2Proof.Machine

/-- Between two states nothing has changed but the link `l`. -/
def ChangesLink (s t : State) (l : LinkId) : Prop := OnlyChanges s t [.links] ∧ OnlyLinks s t [l]

theorem ChangesLink.refl (s : State) (l : LinkId) : ChangesLink s s l := ⟨.refl s _, fun _ _ => rfl⟩

theorem ChangesLink.trans {s t u : State} {l : LinkId} (h : ChangesLink s t l) (g : ChangesLink t u l) :
    ChangesLink s u l := by
  obtain ⟨changes, links⟩ := h
  obtain ⟨changes', links'⟩ := g
  exact ⟨changes.trans changes', links.trans links'⟩

theorem setLink_changesLink (s : State) (l : LinkId) (x : Link) : ChangesLink s (s.setLink l x) l :=
  ⟨setLink_onlyChanges s l x, fun k other => by rw [State.setLink_link, if_neg (by simpa using other)]⟩

/-! ### A framer's phase (R167) -/

theorem setFramer_changesLink (s : State) (l : LinkId) (f : Framer) : ChangesLink s (s.setFramer l f) l :=
  setLink_changesLink s l _

@[simp] theorem State.setFramer_link (s : State) (l k : LinkId) (f : Framer) :
    (s.setFramer l f).link k = if k = l then { s.link l with framer := f } else s.link k :=
  State.setLink_link _ _ _ _

/-! ### An answer that is asked (R173) -/

section
variable (s : State) (l : LinkId)

theorem sendAnswer_changesLink : ChangesLink s (s.sendAnswer l) l := by
  unfold State.sendAnswer
  split
  · exact .refl s l
  · split
    · exact (setLink_changesLink s l _).trans (setLink_changesLink _ l _)
    · exact .refl s l

theorem askAnswer_changesLink (a : Answer) : ChangesLink s (s.askAnswer l a) l := by
  rw [State.askAnswer]
  split
  · exact (setLink_changesLink s l _).trans (sendAnswer_changesLink _ l)
  · exact .refl s l

/-- A transmitter has no part in its link's framer. -/
@[simp] theorem State.sendAnswer_framer : ((s.sendAnswer l).link l).framer = (s.link l).framer := by
  unfold State.sendAnswer
  split
  · rfl
  · split
    · simp
    · rfl

@[simp] theorem State.askAnswer_framer (a : Answer) : ((s.askAnswer l a).link l).framer = (s.link l).framer := by
  rw [State.askAnswer]
  split
  · simp
  · rfl

end

end Sys2Proof.Machine
end

section
/-!
PROOFS. A byte that comes in on a link (R168, R169): the outcome in HUNT, LENGTH and DISCARD, what every byte short of
a frame's last leaves alone, and the two statements.
-/

namespace Sys2Proof.Machine

/-! ### A byte in HUNT (R168) -/

section
variable {s : State} {l : LinkId} {b : Byte}

theorem receive_hunt_lead {run : Bool} (phase : (s.link l).framer = .hunt run) (lead : b = leadByte) :
    s.receive l b = s.setFramer l (.length none crcStart s.timeBase) := by
  simp only [State.receive, phase, if_pos lead]

theorem receive_hunt_inRun (phase : (s.link l).framer = .hunt true) (other : b ≠ leadByte) :
    s.receive l b = s := by
  simp only [State.receive, phase, if_neg other, if_true]

theorem receive_hunt_newRun (phase : (s.link l).framer = .hunt false) (other : b ≠ leadByte) :
    s.receive l b = (s.setFramer l (.hunt true)).askAnswer l .badLead := by
  simp only [State.receive, phase, if_neg other, Bool.false_eq_true, if_false]

/-! ### A byte in LENGTH or DISCARD (R169) -/

theorem receive_length_first {acc : BitVec 16} {last : Time} (phase : (s.link l).framer = .length none acc last) :
    s.receive l b = s.setFramer l (.length (some b) (crcByte acc b) s.timeBase) := by
  simp only [State.receive, phase]

theorem receive_length_second {lo : Byte} {acc : BitVec 16} {last : Time}
    (phase : (s.link l).framer = .length (some lo) acc last) :
    s.receive l b = s.lengthDone l (lo.toNat + 256 * b.toNat) (crcByte acc b) := by
  simp only [State.receive, phase]

theorem receive_discard_more {skip : Nat} {last : Time} (phase : (s.link l).framer = .discard skip last)
    (more : 2 ≤ skip) : s.receive l b = s.setFramer l (.discard (skip - 1) s.timeBase) := by
  simp only [State.receive, phase]
  exact if_neg (by omega)

theorem receive_discard_last {skip : Nat} {last : Time} (phase : (s.link l).framer = .discard skip last)
    (done : skip ≤ 1) : s.receive l b = s.setFramer l (.hunt false) := by
  simp only [State.receive, phase, if_pos done]

end

/-! ### The length field (R169) -/

section
variable (s : State) (l : LinkId) (acc : BitVec 16) {len : Nat}

theorem lengthDone_zero (zero : len = 0) :
    s.lengthDone l len acc = (s.setFramer l (.discard 2 s.timeBase)).askAnswer l .zeroLength :=
  if_pos zero

theorem lengthDone_payload (nonzero : 1 ≤ len) (fits : len ≤ Config.maxPayload) :
    s.lengthDone l len acc = s.setFramer l (.payload [] len acc s.timeBase) := by
  rw [State.lengthDone, if_neg (by omega), if_pos fits]

theorem lengthDone_tooLong (long : Config.maxPayload < len) :
    s.lengthDone l len acc = (s.setFramer l (.discard (len + 2) s.timeBase)).askAnswer l .tooLong := by
  rw [State.lengthDone, if_neg (by omega), if_neg (by omega)]

theorem lengthDone_changesLink (len : Nat) : ChangesLink s (s.lengthDone l len acc) l := by
  unfold State.lengthDone
  split
  · exact (setFramer_changesLink s l _).trans (askAnswer_changesLink _ l _)
  · split
    · exact setFramer_changesLink s l _
    · exact (setFramer_changesLink s l _).trans (askAnswer_changesLink _ l _)

end

/-! ### What a byte leaves alone -/

/-- Only the second check byte, which may hand a frame to its owner, changes more than the link it comes in on. -/
theorem receive_changesLink {s : State} {l : LinkId} (b : Byte)
    (short : ∀ got hi acc last, (s.link l).framer ≠ .check got (some hi) acc last) :
    ChangesLink s (s.receive l b) l := by
  unfold State.receive
  split
  next =>
    split
    · exact setFramer_changesLink s l _
    · split
      · exact .refl s l
      · exact (setFramer_changesLink s l _).trans (askAnswer_changesLink _ l _)
  next => exact setFramer_changesLink s l _
  next => exact lengthDone_changesLink s l _ _
  next => split <;> exact setFramer_changesLink s l _
  next => exact setFramer_changesLink s l _
  next phase => exact absurd phase (short _ _ _ _)
  next => split <;> exact setFramer_changesLink s l _

theorem exec_linkByte (l : LinkId) (b : Byte) (s : State) :
    exec (.linkByte l b) s = s.whenPowered fun s => s.receive l b := rfl

/-- R168, R188: a byte short of a frame's last does what its phase says on its link, and a store write may begin. -/
theorem linkByte_runs {s : State} (l : LinkId) (b : Byte) (on : s.powered = true)
    (short : ∀ got hi acc last, (s.link l).framer ≠ .check got (some hi) acc last) :
    ∃ t, exec (.linkByte l b) s = .next t ∧ OnlyChanges s t [.links, .marks] ∧ OnlyLinks s t [l] ∧ MarksOnly s t []
      ∧ t.link l = (s.receive l b).link l := by
  obtain ⟨changes, links⟩ := receive_changesLink b short
  have write := beginWrite_onlyChanges (s.receive l b)
  refine ⟨_, (exec_linkByte l b s).trans (whenPowered_on on _), ?_, fun k other => ?_, ?_, write.link (by simp) l⟩
  · exact (changes.mono (by simp)).trans (write.mono (by simp))
  · rw [write.link (by simp), links k other]
  · exact (changes.joinsMarks (by simp)).beginWrite

/-! ### The statements -/

/-- Settles O6: the byte's link is read off the outcome in HUNT that its clause names. -/
theorem huntTreatsByte : Obligations.HuntTreatsByte := by
  intro l b run s on phase
  obtain ⟨t, next, frame, links, marks, received⟩ := linkByte_runs l b on (by simp [phase])
  refine ⟨t, next, frame, links, marks, fun lead => ?begins, fun other inRun => ?discarded, fun other newRun => ?asks⟩
  case begins => rw [received, receive_hunt_lead phase lead, State.setFramer_link, if_pos rfl]; rfl
  case discarded => rw [received, receive_hunt_inRun (inRun ▸ phase) other]
  case asks =>
    have asked := received.trans (by rw [receive_hunt_newRun (newRun ▸ phase) other])
    exact ⟨asked, by simp [asked]⟩

/-- Settles O7: the byte's link is read off the outcome in LENGTH or DISCARD that its clause names. -/
theorem lengthDecidesPhase : Obligations.LengthDecidesPhase := by
  refine fun l lo b acc last s on => ⟨fun phase => ?first, fun len phase spelled => ?second, fun skip phase => ?discard⟩
  case first =>
    obtain ⟨t, next, frame, links, marks, received⟩ := linkByte_runs l b on (by simp [phase])
    refine ⟨t, next, frame, links, marks, ?_⟩
    rw [received, receive_length_first phase, State.setFramer_link, if_pos rfl]
  case second =>
    obtain ⟨t, next, frame, links, marks, received⟩ := linkByte_runs l b on (by simp [phase])
    rw [receive_length_second phase, ← spelled] at received
    refine ⟨t, next, frame, links, marks, fun zero => ?_, fun nonzero fits => ?_, fun long => ?_⟩
    · rw [received, lengthDone_zero s l _ zero]
    · rw [received, lengthDone_payload s l _ nonzero fits, State.setFramer_link, if_pos rfl]
    · rw [received, lengthDone_tooLong s l _ long]
  case discard =>
    obtain ⟨t, next, frame, links, marks, received⟩ := linkByte_runs l b on (by simp [phase])
    refine ⟨t, next, frame, links, marks, fun more => ?_, fun done => ?_⟩
    · rw [received, receive_discard_more phase more, State.setFramer_link, if_pos rfl]
    · rw [received, receive_discard_last phase done, State.setFramer_link, if_pos rfl]

end Sys2Proof.Machine
end
